-- ==== Sys2Proof/Word.lean ====
section
/-! DEFINITION. The word types of the sequencer: the byte that travels in a frame (00_scope.md section 6.1), the
24-bit flash address of the wire (R50), the 32-bit request operand (R28) and the 64-bit response value (R29). -/

namespace Sys2Proof

/-- A byte: "A byte is 8 bits" (00_scope.md section 6.1). -/
abbrev Byte := BitVec 8

/-- An address on the wire, "always exactly 3 bytes (24 bits)" (R50). -/
abbrev FlashAddr := BitVec 24

/-- The request fields `offset` and `length`, 32-bit unsigned (R12, R28). -/
abbrev Operand := BitVec 32

/-- The response field `value`, 64 bits (R29). -/
abbrev RespValue := BitVec 64

end Sys2Proof
end

