-- ==== Sys2Proof/Config.lean ====
section
/-! DEFINITION. What the spec leaves open: the parameter FLASH_SIZE (R8, D4), the answers of the oracles (R10, R237,
R228), the filler bytes (R86) and the chip that is fitted (R33, R251). Every constant is a free value: none has a body,
so nothing can be proved of its value and a claim holds whatever it is. -/

namespace Sys2Proof.Config

/-- FLASH_SIZE less one: `1 <= FLASH_SIZE <= 16777216` (R8), open (D4). -/
opaque flashSizeLessOne : Fin 16777216

/-- FLASH_SIZE, "its configured value" (R251): 1 to 2^24 by construction (R8). DESIGN CHOICE, log 1. -/
def flashSize : Nat := flashSizeLessOne.val + 1

/-- `poweredDown` after hardware reset: "unspecified", "a model must not assume 0 or 1" (R251). DESIGN CHOICE, log 2. -/
opaque poweredDownAtReset : Bool

/-- The k-th byte received from the transport when no script says it: any value (R237, U7). Log 6. -/
opaque freeRx : Nat → Byte

/-- The k-th filler byte DUMMY sent when no script says it: any value, drawn afresh (R86, D6). Log 8. -/
opaque freeFill : Nat → Byte

/-- The k-th increment of the clock when no script says it: any natural number (R229). Log 7. -/
opaque freeTick : Nat → Nat

/-- How many further frames find the reference chip busy after it starts its k-th cycle when no script says it:
"a chip-defined time" (20_memory.md section 9). Log 11. -/
opaque freeCycle : Nat → Nat

/-- The chip's write-enable latch at reset: not in source (R251). Log 13. -/
opaque chipWel : Bool

/-- How long the chip is still busy at reset: "idle or busy" (R251). Log 13. -/
opaque chipBusyFor : Nat

/-- Whether the chip is powered down at reset: "awake or powered down" (R251). Log 13. -/
opaque chipAsleep : Bool

/-- The chip's status register at reset: not in source (R32, R251). Log 13. -/
opaque chipSr : Byte

/-- Which status bits a status write can change: chip-defined (R32, U8). Log 13. -/
opaque chipSrMask : Byte

/-- The 24-bit JEDEC ID of the fitted chip: not in source (R208, N12). Log 13. -/
opaque chipJedec : BitVec 24

/-- The 64-bit unique ID of the fitted chip: not in source (R209). Log 13. -/
opaque chipUid : BitVec 64

end Sys2Proof.Config
end

