-- ==== Sys2Proof/Syntax.lean ====
section
/-! DEFINITION. The instructions of the hardware (R3): the ten host operations and, one level below, the eleven wire
commands, one constructor per row of spec/opcode_table.json, in the table's order; and the host's request record (R28). -/

namespace Sys2Proof

/-- A host request, the record REQ (R28). Fields an operation does not use are ignored by it. -/
structure Request where
  /-- the operation's number carried as a 4-bit number (R100, R102) -/
  op     : BitVec 4
  /-- byte offset into the flash array -/
  offset : Operand
  /-- byte count -/
  length : Operand
  /-- byte to write to the chip's status register -/
  value  : Byte
  /-- absent, or the bytes to program -/
  data   : Option (List Byte)
  deriving DecidableEq, Repr

/-- The instructions (R3). A wire command carries every byte of its frame but the opcode, the filler bytes of R86
included; a host operation carries the operands of R100. -/
inductive Instr where
  /-- 0x01, format F-REG (R142) -/
  | writeStatusRegister (value : Byte)
  /-- 0x02, format F-ADDR-WR (R186) -/
  | pageProgram (addr : FlashAddr) (payload : List Byte)
  /-- 0x03, format F-ADDR-RD (R196) -/
  | readData (addr : FlashAddr) (fillers : List Byte)
  /-- 0x05, format F-REG (R141) -/
  | readStatusRegister (filler : Byte)
  /-- 0x06, format F-OP (R143) -/
  | writeEnable
  /-- 0x20, format F-ADDR (R160) -/
  | sectorErase4k (addr : FlashAddr)
  /-- 0x4B, format F-ID with k = 4, m = 8 (R209) -/
  | readUniqueId (fillers : List Byte)
  /-- 0x52, format F-ADDR (R161) -/
  | blockErase32k (addr : FlashAddr)
  /-- 0xAB, format F-OP (R122) -/
  | releasePowerDown
  /-- 0xB9, format F-OP (R125) -/
  | powerDown
  /-- 0x9F, format F-ID with k = 0, m = 3 (R206) -/
  | jedecId (fillers : List Byte)
  /-- request 0, `init()` (R121) -/
  | init
  /-- request 1, `sleep()` (R126) -/
  | sleep
  /-- request 2, `wait()` (R149) -/
  | wait
  /-- request 3, `getStatus()` (R147) -/
  | getStatus
  /-- request 4, `setStatus(value)` (R151) -/
  | setStatus (value : Byte)
  /-- request 5, `erase(offset, length)` (R167) -/
  | erase (offset length : Operand)
  /-- request 6, `write(data, offset, length)`; `none` is absent data (R182, R184) -/
  | write (data : Option (List Byte)) (offset length : Operand)
  /-- request 7, `read(buffer, offset, length)` (R199) -/
  | read (offset length : Operand)
  /-- request 8, `getJedecId()` (R207) -/
  | getJedecId
  /-- request 9, `getUniqueId()` (R210) -/
  | getUniqueId
  deriving DecidableEq, Repr

/-- Whether the instruction is a host operation (a request) rather than a wire command (R3). -/
def Instr.isOperation : Instr → Bool
  | .writeStatusRegister _ => false
  | .pageProgram _ _ => false
  | .readData _ _ => false
  | .readStatusRegister _ => false
  | .writeEnable => false
  | .sectorErase4k _ => false
  | .readUniqueId _ => false
  | .blockErase32k _ => false
  | .releasePowerDown => false
  | .powerDown => false
  | .jedecId _ => false
  | .init => true
  | .sleep => true
  | .wait => true
  | .getStatus => true
  | .setStatus _ => true
  | .erase _ _ => true
  | .write _ _ _ => true
  | .read _ _ => true
  | .getJedecId => true
  | .getUniqueId => true

end Sys2Proof
end

