-- ==== Sys2Proof/WellFormed.lean ====
section
/-! DEFINITION. Which instructions are well formed: the lengths of the frame formats (R82) and of the WRITE record (R28),
which the decoder checks, and the limits on the addresses of the commands (R160, R161, R186), which it does not (R89). -/

namespace Sys2Proof

/-- `SECTOR_SIZE`, `BLOCK_SIZE` and `PAGE_SIZE` (R9, R51). -/
def sectorSize : Nat := 4096
@[inherit_doc sectorSize] def blockSize : Nat := 32768
@[inherit_doc sectorSize] def pageSize : Nat := 256

/-- The byte strings of an instruction have the lengths of its format: a PAGE PROGRAM payload "`1 <= n <= 256`" (R82),
the 3 answer slots of JEDEC ID (R206), the 4 fillers and 8 answer slots of READ UNIQUE ID (R209), and for present WRITE
data "a list of exactly `length` bytes" (R28). This is all a decoder can ask of a frame whose opcode it knows: decoding
"never depends on anything but byte 0 and the recorded length" (R89). -/
def Instr.fitsFormat : Instr → Bool
  | .writeStatusRegister _ => true
  | .pageProgram _ p => decide (1 ≤ p.length) && decide (p.length ≤ pageSize)
  | .readData _ _ => true
  | .readStatusRegister _ => true
  | .writeEnable => true
  | .sectorErase4k _ => true
  | .readUniqueId xs => decide (xs.length = 12)
  | .blockErase32k _ => true
  | .releasePowerDown => true
  | .powerDown => true
  | .jedecId xs => decide (xs.length = 3)
  | .init => true
  | .sleep => true
  | .wait => true
  | .getStatus => true
  | .setStatus _ => true
  | .erase _ _ => true
  | .write none _ _ => true
  | .write (some d) _ n => decide (d.length = n.toNat)
  | .read _ _ => true
  | .getJedecId => true
  | .getUniqueId => true

/-- The limits on the address of a command.
PAGE PROGRAM: "`(a mod 256) + len(P) <= 256`" (R186); SECTOR ERASE "must be 4096-aligned" (R160); BLOCK ERASE "must be
32768-aligned" (R161). -/
def Instr.addressLegal : Instr → Bool
  | .writeStatusRegister _ => true
  | .pageProgram a p => decide (a.toNat % pageSize + p.length ≤ pageSize)
  | .readData _ _ => true
  | .readStatusRegister _ => true
  | .writeEnable => true
  | .sectorErase4k a => decide (a.toNat % sectorSize = 0)
  | .readUniqueId _ => true
  | .blockErase32k a => decide (a.toNat % blockSize = 0)
  | .releasePowerDown => true
  | .powerDown => true
  | .jedecId _ => true
  | .init => true
  | .sleep => true
  | .wait => true
  | .getStatus => true
  | .setStatus _ => true
  | .erase _ _ => true
  | .write _ _ _ => true
  | .read _ _ => true
  | .getJedecId => true
  | .getUniqueId => true

/-- An instruction that keeps its format and the limits on its address: one the sequencer may send or the host make. -/
def Instr.wellFormed (i : Instr) : Bool := i.fitsFormat && i.addressLegal

end Sys2Proof
end

