-- ==== Sys2Proof/Decode.lean ====
section
/-! DEFINITION. The two encodings of 30_encoding.md, read and written: downward the frame of bytes of a wire command
(R80 to R90), upward the host's request record (R100, R102). Decoding is total and rejects by name; the encoder comes
after it, from the same tables. -/

namespace Sys2Proof

/-- Why a frame or a request stands for no instruction. -/
inductive DecodeError where
  /-- a frame has `n >= 1` bytes (R80) -/
  | emptyFrame
  /-- byte 0 is none of the eleven opcodes (R83, R87, R88) -/
  | unknownOpcode
  /-- the length does not fit the opcode's format (R82, R83) -/
  | badLength
  /-- request codes 10 to 15 name no operation (R102) -/
  | reservedOperation
  /-- WRITE data whose list length differs from `length` (R28, D15) -/
  | dataLength
  deriving DecidableEq, Repr

/-- What an instruction is encoded as: the bytes of a frame or a request record. -/
inductive Encoded where
  | frame (bytes : List Byte)
  | request (r : Request)
  deriving DecidableEq, Repr

/-- Address assembly for a decoder: `a = A2 * 65536 + A1 * 256 + A0` (R84). -/
def addr24 (a2 a1 a0 : Byte) : FlashAddr := a2 ++ a1 ++ a0

/-- `Addr3(a) = [a[23:16], a[15:8], a[7:0]]`, most significant byte first (R54, R84). -/
def addr3 (a : FlashAddr) : List Byte :=
  [a.extractLsb' 16 8, a.extractLsb' 8 8, a.extractLsb' 0 8]

/-- The instruction if its byte strings have the lengths of its format, else the named error. -/
def checked (i : Instr) (e : DecodeError) : Except DecodeError Instr :=
  if i.fitsFormat then .ok i else .error e

/-- A command of format F-OP: no byte after the opcode (R82). -/
def decodeOp (i : Instr) : List Byte → Except DecodeError Instr
  | [] => .ok i
  | _ :: _ => .error .badLength

/-- A command of format F-REG: one byte after the opcode (R82). -/
def decodeReg (i : Byte → Instr) : List Byte → Except DecodeError Instr
  | [v] => .ok (i v)
  | _ => .error .badLength

/-- A command of format F-ADDR: three address bytes, of any value (R82, R89). -/
def decodeAddr (i : FlashAddr → Instr) : List Byte → Except DecodeError Instr
  | [a2, a1, a0] => .ok (i (addr24 a2 a1 a0))
  | _ => .error .badLength

/-- The formats F-ADDR-WR and F-ADDR-RD: three address bytes of any value, then the payload or the fillers, whose number
the format limits (R82, R89). -/
def decodeAddrData (i : FlashAddr → List Byte → Instr) : List Byte → Except DecodeError Instr
  | a2 :: a1 :: a0 :: bytes => checked (i (addr24 a2 a1 a0) bytes) .badLength
  | _ => .error .badLength

/-- The command a frame stands for: the opcode selects the format, all 8 bits of byte 0 matched (R83,
R87). Whether a frame decodes depends on byte 0 and the frame's length alone (R89); the other bytes are operands. -/
def decodeFrame : List Byte → Except DecodeError Instr
  | [] => .error .emptyFrame
  | op :: rest =>
    if op = 0x01#8 then decodeReg .writeStatusRegister rest
    else if op = 0x02#8 then decodeAddrData .pageProgram rest
    else if op = 0x03#8 then decodeAddrData .readData rest
    else if op = 0x05#8 then decodeReg .readStatusRegister rest
    else if op = 0x06#8 then decodeOp .writeEnable rest
    else if op = 0x20#8 then decodeAddr .sectorErase4k rest
    else if op = 0x4B#8 then checked (.readUniqueId rest) .badLength
    else if op = 0x52#8 then decodeAddr .blockErase32k rest
    else if op = 0xAB#8 then decodeOp .releasePowerDown rest
    else if op = 0xB9#8 then decodeOp .powerDown rest
    else if op = 0x9F#8 then checked (.jedecId rest) .badLength
    else .error .unknownOpcode

/-- The operation a request names: the numbering of R100; codes 10 to 15 name none (R102). -/
def decodeRequest (r : Request) : Except DecodeError Instr :=
  if r.op = 0#4 then .ok .init
  else if r.op = 1#4 then .ok .sleep
  else if r.op = 2#4 then .ok .wait
  else if r.op = 3#4 then .ok .getStatus
  else if r.op = 4#4 then .ok (.setStatus r.value)
  else if r.op = 5#4 then .ok (.erase r.offset r.length)
  else if r.op = 6#4 then checked (.write r.data r.offset r.length) .dataLength
  else if r.op = 7#4 then .ok (.read r.offset r.length)
  else if r.op = 8#4 then .ok .getJedecId
  else if r.op = 9#4 then .ok .getUniqueId
  else .error .reservedOperation

/-- The decoder of both encodings. -/
def decode : Encoded → Except DecodeError Instr
  | .frame bytes => decodeFrame bytes
  | .request r => decodeRequest r

/-- A request record with every field that the operation does not use at zero or absent (R28, R100). -/
def plainRequest (op : BitVec 4) : Request := ⟨op, 0, 0, 0, none⟩

/-- The bytes sent by a wire command, or the record of a host operation. -/
def encode : Instr → Encoded
  | .writeStatusRegister v => .frame [0x01#8, v]
  | .pageProgram a p => .frame (0x02#8 :: addr3 a ++ p)
  | .readData a xs => .frame (0x03#8 :: addr3 a ++ xs)
  | .readStatusRegister x => .frame [0x05#8, x]
  | .writeEnable => .frame [0x06#8]
  | .sectorErase4k a => .frame (0x20#8 :: addr3 a)
  | .readUniqueId xs => .frame (0x4B#8 :: xs)
  | .blockErase32k a => .frame (0x52#8 :: addr3 a)
  | .releasePowerDown => .frame [0xAB#8]
  | .powerDown => .frame [0xB9#8]
  | .jedecId xs => .frame (0x9F#8 :: xs)
  | .init => .request (plainRequest 0)
  | .sleep => .request (plainRequest 1)
  | .wait => .request (plainRequest 2)
  | .getStatus => .request (plainRequest 3)
  | .setStatus v => .request { plainRequest 4 with value := v }
  | .erase o n => .request { plainRequest 5 with offset := o, length := n }
  | .write d o n => .request { plainRequest 6 with offset := o, length := n, data := d }
  | .read o n => .request { plainRequest 7 with offset := o, length := n }
  | .getJedecId => .request (plainRequest 8)
  | .getUniqueId => .request (plainRequest 9)

/-- The frame of a wire command (R82, R87); a host operation has none. -/
def encodeFrame (i : Instr) : Option (List Byte) :=
  match encode i with
  | .frame bytes => some bytes
  | .request _ => none

/-- The first `n` bytes of a table word: byte `k` is bits `8k+7 .. 8k` (spec/opcode_table.json numbers bits from the
first byte's least significant bit). -/
def tableBytes (n w : Nat) : List Byte := (List.range n).map fun k => BitVec.ofNat 8 (w / 256 ^ k)

/-- The shortest frame of an opcode (R82, R89), by its number. -/
def minFrameLength (op : Nat) : Nat :=
  if op = 0x01 ∨ op = 0x05 then 2
  else if op = 0x02 then 5
  else if op = 0x03 ∨ op = 0x20 ∨ op = 0x52 ∨ op = 0x9F then 4
  else if op = 0x4B then 13
  else 1

/-- What a row of spec/opcode_table.json with its other bits zero stands for. The table numbers requests by a 4-bit
number and wire commands by byte 0, so a word below 16 given as one byte is both; it is read as the request. The data
of a WRITE is then present and empty, as its `length` is 0. DESIGN CHOICE, log 16. -/
def tableEncoded (nbits w : Nat) : Encoded :=
  if nbits ≤ 8 ∧ w < 16 then .request { plainRequest (BitVec.ofNat 4 w) with data := some [] }
  else .frame (tableBytes (max (nbits / 8) (minFrameLength (w % 256))) w)

/-- The instruction the decoder reads from a table word. -/
def decodeTableWord (nbits w : Nat) : Option Instr :=
  match decode (tableEncoded nbits w) with
  | .ok i => some i
  | .error _ => none

end Sys2Proof
end

