-- ==== Sys2Proof/Machine/State.lean ====
section
/-! DEFINITION. The state of the machine (10_state.md, 70_reset_and_hazards.md section 1) as plain data, the events of
its trace (R13), its result codes (R220), the ways a step can stop, and the state after reset (R251). -/

namespace Sys2Proof.Machine

/-- The four result codes (R220). -/
inductive Result where
  /-- the operation ran to its end -/
  | success
  /-- a `Wait()` exceeded 800 ms (R221) -/
  | timeout
  /-- reserved; never produced (R224) -/
  | accessDenied
  /-- an input check failed before any bus traffic (R222) -/
  | inputValue
  deriving DecidableEq, Repr

/-- The response record RESP (R29). "Fields an operation does not write hold no value": `none`. -/
structure Response where
  err   : Result
  value : Option RespValue
  data  : Option (List Byte)
  deriving DecidableEq, Repr

/-- The three kinds of event of a trace (R13). -/
inductive Event where
  /-- `initializeAsController()` (R236) -/
  | busInit
  /-- one chip-select assertion: the bytes sent and the bytes received (R80) -/
  | frame (mosi miso : List Byte)
  /-- one query of the clock and its answer (R228) -/
  | now (t : Nat)
  deriving DecidableEq, Repr

/-- The points of `Wait()` (R148): sample the clock, poll, test the busy bit, read the clock and test the time. -/
inductive WaitPoint where
  | start | poll | test | time
  deriving DecidableEq, Repr

/-- The two erase units (R51): a 32768-byte block and a 4096-byte sector. -/
inductive EraseSize where
  | block | sector
  deriving DecidableEq, Repr

/-- The points of INIT (R121). -/
inductive InitPoint where
  | config | wake | finish
  deriving DecidableEq, Repr

/-- The points of SLEEP (R126) after its test of `poweredDown`. -/
inductive SleepPoint where
  | cmd | finish
  deriving DecidableEq, Repr

/-- The points of GET_STATUS (R146, R147). -/
inductive StatusPoint where
  | poll | finish
  deriving DecidableEq, Repr

/-- The points of READ (R199), GET_JEDEC_ID (R207) and GET_UNIQUE_ID (R210). -/
inductive QueryPoint where
  | wake | cmd | finish
  deriving DecidableEq, Repr

/-- The points of SET_STATUS (R151). -/
inductive SetPoint where
  | wake | wen | cmd
  | waiting (w : WaitPoint)
  deriving DecidableEq, Repr

/-- The points of ERASE (R167): the wake, the heads of the two loops, and inside one `EraseUnit` (R164) the re-check with
the write-enable, the erase command and the wait. -/
inductive ErasePoint where
  | wake | blocks | sectors
  | wen (u : EraseSize)
  | cmd (u : EraseSize)
  | waiting (u : EraseSize) (w : WaitPoint)
  deriving DecidableEq, Repr

/-- The points of WRITE (R184): the wake, the loop head, the wait before a chunk, the write-enable, the program command,
the advance, and the last wait. -/
inductive WritePoint where
  | wake | chunks
  | waitChunk (w : WaitPoint)
  | wen | cmd | advance
  | waitLast (w : WaitPoint)
  deriving DecidableEq, Repr

/-- The phase register `seq` (R27): IDLE, or RUN(op, k) with the points `k` of the operation `op`. -/
inductive Seq where
  | idle
  | init (k : InitPoint)
  | sleep (k : SleepPoint)
  | wait (k : WaitPoint)
  | getStatus (k : StatusPoint)
  | setStatus (k : SetPoint)
  | erase (k : ErasePoint)
  | write (k : WritePoint)
  | read (k : QueryPoint)
  | getJedecId (k : QueryPoint)
  | getUniqueId (k : QueryPoint)
  deriving DecidableEq, Repr

/-- A source of answers from outside the machine (R10): the answers a run is given, oldest first, then free values; and
how many answers were taken so far. Logs 6, 7, 8, 11. -/
structure Source (α : Type) where
  script : List α
  drawn  : Nat
  deriving DecidableEq, Repr

/-- The flash array as a list of (address, byte) pairs in one canonical form (`Memory.wf`). -/
abbrev Memory := List Host.Cell

/-- What an unlisted flash address reads as: the erased byte 0xFF of the reference chip. DESIGN CHOICE, log 12. -/
def erasedByte : Byte := 0xFF#8

/-- The canonical form: addresses strictly rising, and no entry equal to what an unlisted address reads as. -/
abbrev Memory.wf (m : Memory) : Prop :=
  m.Pairwise (fun c d => c.1 < d.1) ∧ ∀ c ∈ m, c.2 ≠ erasedByte

/-- The state of the chip that an operation's outcome depends on and that the sequencer only mirrors (R33), in the shape
of the informative reference chip (20_memory.md section 9). PRESUMED, log 10. -/
structure Chip where
  /-- the flash array (R33 (d), R50) -/
  array   : Memory
  /-- the write-enable latch (R33 (a)) -/
  wel     : Bool
  /-- how many further frames find the chip busy (R33 (b)); log 11 -/
  busyFor : Nat
  /-- the real power state (R33 (c)) -/
  asleep  : Bool
  /-- the status register's stored bits (R32, R33 (e)) -/
  sr      : Byte
  /-- the status bits a status write can change (R32) -/
  srMask  : Byte
  /-- the JEDEC ID (R206) -/
  jedec   : BitVec 24
  /-- the unique ID (R209) -/
  uid     : BitVec 64
  deriving DecidableEq, Repr

/-- Who answers a frame: an unconstrained oracle (R237) or the reference chip (D19, D29). Logs 6, 10. -/
inductive Answers where
  | oracle | chip
  deriving DecidableEq, Repr

/-- The machine's state. -/
structure State where
  /-- the parameter FLASH_SIZE, which no step writes (R8, R251); log 1 -/
  flashSize      : Nat
  /-- the mirror of the chip's power state (R21) -/
  poweredDown    : Bool
  /-- INIT has run (R23) -/
  inited         : Bool
  /-- the transport has been configured (R251, R236) -/
  transportReady : Bool
  /-- the phase register (R27) -/
  seq            : Seq
  /-- the request record (R28); what it holds after the response: log 27 -/
  req            : Option Request
  /-- the response record (R29) -/
  resp           : Option Response
  /-- the current flash address (R25) -/
  cur            : Nat
  /-- bytes still to erase or write (R25) -/
  rem            : Nat
  /-- size of the current chunk (R25) -/
  chunk          : Nat
  /-- index of the first byte not yet sent (R25) -/
  idx            : Nat
  /-- the tick sampled when the current `Wait()` began (R25) -/
  t0             : Nat
  /-- the latest status byte (R25) -/
  st             : Byte
  /-- the bytes the latest frame received (R80); log 23 -/
  miso           : List Byte
  /-- the transfer buffer: a composed frame that is not sent yet (R234); log 9 -/
  frame          : Option (List Byte)
  /-- the host's requests still to be issued, next first (R269); log 15 -/
  requests       : List Request
  /-- the responses delivered, oldest first (R269) -/
  responses      : List Response
  /-- the trace, oldest first (R13) -/
  trace          : List Event
  /-- who answers a frame; log 6 -/
  answers        : Answers
  /-- received bytes (R237); log 6 -/
  rx             : Source Byte
  /-- filler bytes (R86); log 8 -/
  fill           : Source Byte
  /-- increments of the clock (R229); log 7 -/
  ticks          : Source Nat
  /-- the latest tick of the clock (R229); log 7 -/
  clock          : Nat
  /-- busy times of the reference chip; log 11 -/
  cycles         : Source Nat
  /-- the chip (R33); log 10 -/
  chip           : Chip
  deriving DecidableEq, Repr

/-- Why the machine stops. The sequencer has no fault of its own: every error is a result code (R220, R237). -/
inductive Fault where
  /-- Raised by the eleven wire commands while the transport is not configured: "a frame cannot be sent on an
  unconfigured bus" (R121). Safe: the model stops where the spec gives the frame no meaning (R254). Log 21. -/
  | busNotConfigured
  deriving DecidableEq, Repr

/-- Why a step is given no meaning. -/
inductive Refusal where
  /-- An instruction without a meaning, by its mnemonic: raised by no arm of this model. Safe. -/
  | notModelled (mnemonic : String)
  /-- Raised by `step` on a transfer buffer whose first byte is no opcode or whose length does not fit its format: "never
  produced by the sequencer" (R83).
  Safe. Log 20. -/
  | illegalFrame (e : DecodeError)
  /-- Raised by `step` on a request that names no operation (R102) or whose data has another length (R28): refused by
  the spec. Safe. -/
  | illegalRequest (e : DecodeError)
  /-- Raised by every operation but INIT before INIT has run: refused by the spec (R23, R254). Safe. -/
  | notInitialised
  /-- Raised by an operation while another one runs: refused by the spec (R241, R73). Safe. Log 18. -/
  | requestWhileBusy
  /-- Raised by `step` when an operation runs and REQ holds no value, which no run from reset reaches. Safe. Log 18. -/
  | noRequest
  deriving DecidableEq, Repr

/-- The outcomes of a step of this machine. -/
abbrev Out := Host.Outcome State Fault Refusal

/-- A source that has given no answer and has no script. -/
def Source.fresh {α : Type} : Source α := ⟨[], 0⟩

/-- The machine right after hardware reset (R251): nothing has happened on the bus, `inited` is 0, `seq` is IDLE, REQ and
RESP hold no value. The parameter, `poweredDown` and the chip hold what Config leaves free (logs 1, 2, 12, 13); the
working registers, which hold no value, hold 0 (log 4). -/
def State.reset : State where
  flashSize := Config.flashSize
  poweredDown := Config.poweredDownAtReset
  inited := false
  transportReady := false
  seq := .idle
  req := none
  resp := none
  cur := 0
  rem := 0
  chunk := 0
  idx := 0
  t0 := 0
  st := 0
  miso := []
  frame := none
  requests := []
  responses := []
  trace := []
  answers := .oracle
  rx := .fresh
  fill := .fresh
  ticks := .fresh
  clock := 0
  cycles := .fresh
  chip :=
    { array := [], wel := Config.chipWel, busyFor := Config.chipBusyFor, asleep := Config.chipAsleep,
      sr := Config.chipSr, srMask := Config.chipSrMask, jedec := Config.chipJedec, uid := Config.chipUid }

end Sys2Proof.Machine
end

