-- ==== Sys2Proof/Machine/Flags.lean ====
section
/-! DEFINITION. The flag-like state of R30: the busy bit of a status byte, the time test of `Wait()`, and the numbers of
the result codes (R101). There are no condition codes and no arithmetic flags. -/

namespace Sys2Proof.Machine

/-- "Bit 0 of this byte is the busy flag" (R32, R146). -/
def busyBit (st : Byte) : Bool := st.getLsbD 0

/-- `WAIT_TIMEOUT_MS` (R9, R230). -/
def waitTimeoutMs : Nat := 800

/-- The time test of `Wait()`: "strictly more than 800 ms since t0" (R148, 90_conflicts.md C1). -/
def timedOut (t0 t : Nat) : Bool := decide (t - t0 > waitTimeoutMs)

/-- The numbers of the result codes (R101). -/
def Result.code : Result → Nat
  | .success => 0
  | .timeout => 1
  | .accessDenied => 2
  | .inputValue => 3

end Sys2Proof.Machine
end

