-- ==== Sys2Proof/Machine/Operands.lean ====
section
/-! DEFINITION. What the operations compute from their operands: the input checks (R162, R163, R182, R197), the erase
units (R164, R165), the chunk size (R183), the wire address of a natural number (R84), and the packing of received
bytes into integers (R90). -/

namespace Sys2Proof.Machine

/-- The bounds test `offset + length > FLASH_SIZE`, "computed exactly, on natural numbers" (R12). -/
def exceedsFlash (flashSize : Nat) (offset length : Operand) : Bool :=
  decide (offset.toNat + length.toNat > flashSize)

/-- The alignment test of ERASE: `offset mod 4096 != 0` or `length mod 4096 != 0` (R163). -/
def misaligned (offset length : Operand) : Bool :=
  decide (offset.toNat % sectorSize ≠ 0) || decide (length.toNat % sectorSize ≠ 0)

/-- ERASE's input checks: bounds, then alignment (R162, R163, R226). -/
def eraseRejects (flashSize : Nat) (offset length : Operand) : Bool :=
  exceedsFlash flashSize offset length || misaligned offset length

/-- WRITE's input checks: absent data, then bounds (R182, R226). -/
def writeRejects (flashSize : Nat) (data : Option (List Byte)) (offset length : Operand) : Bool :=
  data.isNone || exceedsFlash flashSize offset length

/-- Bytes of one erase unit (R9, R164). -/
def EraseSize.bytes : EraseSize → Nat
  | .block => blockSize
  | .sector => sectorSize

/-- The 24 bits of a flash address that are sent (R84). -/
def wireAddr (a : Nat) : FlashAddr := BitVec.ofNat 24 a

/-- The command of one erase unit: 0x52 or 0x20 (R164). -/
def EraseSize.command (a : Nat) : EraseSize → Instr
  | .block => .blockErase32k (wireAddr a)
  | .sector => .sectorErase4k (wireAddr a)

/-- The loop a unit belongs to (R167). -/
def EraseSize.loopHead : EraseSize → ErasePoint
  | .block => .blocks
  | .sector => .sectors

/-- The condition of the block phase: `cur mod 32768 = 0 and rem >= 32768` (R165). -/
def blockFits (cur rem : Nat) : Bool := decide (cur % blockSize = 0) && decide (rem ≥ blockSize)

/-- `min(256 - (cur & 0xFF), rem)` (R183). -/
def chunkSize (cur rem : Nat) : Nat := min (pageSize - cur % pageSize) rem

/-- The slice `data[idx .. idx + chunk]` (R184). -/
def slice (data : List Byte) (idx chunk : Nat) : List Byte := (data.drop idx).take chunk

/-- Received bytes packed big-endian into 64 bits: "the first byte received becomes the most significant byte" (R56). -/
def packBE (bytes : List Byte) : RespValue :=
  bytes.foldl (fun acc b => (acc <<< 8) ||| b.setWidth 64) 0

/-- The JEDEC value: `miso[1] << 16 | miso[2] << 8 | miso[3]` of the 0x9F frame (R207). -/
def jedecValue (miso : List Byte) : RespValue := packBE ((miso.drop 1).take 3)

/-- The unique identifier: `miso[5] << 56 | ... | miso[12]` of the 0x4B frame (R210). -/
def uniqueValue (miso : List Byte) : RespValue := packBE ((miso.drop 5).take 8)

/-- The payload of a READ DATA frame: `miso[4 .. 4 + length]` (R199). -/
def readPayload (miso : List Byte) (length : Operand) : List Byte := slice miso 4 length.toNat

/-- The fields of the JEDEC value: `value[23:16]` manufacturer, `value[15:8]` type, `value[7:0]` capacity (R208). -/
def jedecManufacturer (v : RespValue) : Byte := v.extractLsb' 16 8
@[inherit_doc jedecManufacturer] def jedecType (v : RespValue) : Byte := v.extractLsb' 8 8
@[inherit_doc jedecManufacturer] def jedecCapacity (v : RespValue) : Byte := v.extractLsb' 0 8

end Sys2Proof.Machine
end

