-- ==== Sys2Proof/Machine/Chip.lean ====
section
/-! DEFINITION. The informative reference chip of 20_memory.md section 9 (G3): the flash array as canonical memory and
what a wire command does to the chip. PRESUMED, log 10: the spec marks it general knowledge, and no rule of the sequencer
depends on it. -/

namespace Sys2Proof.Machine

/-- The byte at a flash address. -/
def Memory.read : Memory → Nat → Byte
  | [], _ => erasedByte
  | (k, v) :: m, a => if k = a then v else Memory.read m a

/-- Write one byte, keeping the canonical form. -/
def Memory.write : Memory → Nat → Byte → Memory
  | [], a, v => if v = erasedByte then [] else [(a, v)]
  | (k, w) :: m, a, v =>
    if a < k then (if v = erasedByte then (k, w) :: m else (a, v) :: (k, w) :: m)
    else if a = k then (if v = erasedByte then m else (a, v) :: m)
    else (k, w) :: Memory.write m a v

/-- Erase `n` bytes from `lo`: "all 4096 bytes ... become 0xFF". -/
def Memory.eraseRange (m : Memory) (lo n : Nat) : Memory :=
  m.filter fun c => !(decide (lo ≤ c.1) && decide (c.1 < lo + n))

/-- The address a program payload byte goes to: `page(a) + ((a + j) mod 256)`. -/
def programAddr (a j : Nat) : Nat := a - a % pageSize + (a + j) % pageSize

/-- Program payload bytes `j`, `j + 1`, ...: `array[...] <- array[...] & P[j]`. An address outside the array
(`>= FLASH_SIZE`) has no byte and is skipped (log 14). -/
def Memory.program (size a : Nat) : Nat → List Byte → Memory → Memory
  | _, [], m => m
  | j, b :: bs, m =>
    let t := programAddr a j
    Memory.program size a (j + 1) bs (if t < size then m.write t (m.read t &&& b) else m)

/-- The byte the chip returns for one flash address: addresses wrap at the chip's size (log 14). -/
def Chip.byteAt (c : Chip) (size a : Nat) : Byte := c.array.read (a % size)

/-- Whether the chip is busy (status bit 0). -/
def Chip.busy (c : Chip) : Bool := decide (c.busyFor ≠ 0)

/-- The status byte: bit 0 is `busy`, bit 1 is `wel`, the rest is stored (log 25). -/
def Chip.status (c : Chip) : Byte :=
  (c.sr &&& 0xFC#8) ||| (if c.wel then 0x02#8 else 0#8) ||| (if c.busy then 0x01#8 else 0#8)

/-- The bytes of a number of `8 * n` bits, most significant first. -/
def bytesBE {w : Nat} (n : Nat) (v : BitVec w) : List Byte :=
  (List.range n).map fun k => v.extractLsb' (8 * (n - 1 - k)) 8

/-- Whether the chip obeys commands: neither busy nor powered down. -/
def Chip.listens (c : Chip) : Bool := !c.busy && !c.asleep

/-- `n` positions the chip leaves undefined. -/
def quiet (n : Nat) : List (Option Byte) := List.replicate n none

/-- What the chip drives in answer to a command, one entry per byte sent; `none` where nothing is defined. A status read
is answered even while busy; while powered down nothing is answered. -/
def Chip.reply (c : Chip) (size : Nat) : Instr → List (Option Byte)
  | .readStatusRegister _ => [none, if c.asleep then none else some c.status]
  | .readData a xs =>
      quiet 4 ++ (if c.listens then (List.range xs.length).map fun j => some (c.byteAt size (a.toNat + j))
        else quiet xs.length)
  | .jedecId xs => none :: (if c.listens then (bytesBE 3 c.jedec).map some else quiet xs.length)
  | .readUniqueId xs => if c.listens then quiet 5 ++ (bytesBE 8 c.uid).map some else quiet (xs.length + 1)
  | i => quiet ((encodeFrame i).getD []).length

/-- Whether a command starts a program, erase or status-write cycle: the latch is set and the chip obeys (R76 (b)). -/
def Chip.starts (c : Chip) : Instr → Bool
  | .writeStatusRegister _ => c.wel && c.listens
  | .pageProgram _ _ => c.wel && c.listens
  | .sectorErase4k _ => c.wel && c.listens
  | .blockErase32k _ => c.wel && c.listens
  | _ => false

/-- One frame's worth of a running cycle: after the last, busy and the latch clear ("after which `busy <- 0`,
`wel <- 0`"). -/
def Chip.elapse (c : Chip) : Chip :=
  if c.busyFor = 0 then c
  else { c with busyFor := c.busyFor - 1, wel := if c.busyFor = 1 then false else c.wel }

/-- Begin a cycle that the next `n` frames find running. -/
def Chip.begin (c : Chip) (n : Nat) : Chip :=
  { c with busyFor := n, wel := if n = 0 then false else c.wel }

/-- The base of the unit of `n` bytes that holds `a`. -/
def unitBase (a n : Nat) : Nat := a - a % n

/-- What a command does to a chip that obeys it; `n` is the length of the cycle it starts. -/
def Chip.obey (c : Chip) (size n : Nat) : Instr → Chip
  | .writeEnable => { c with wel := true }
  | .powerDown => { c with asleep := true }
  | .writeStatusRegister v =>
      if c.wel then ({ c with sr := (c.sr &&& ~~~c.srMask) ||| (v &&& c.srMask) }).begin n else c
  | .pageProgram a p => if c.wel then ({ c with array := c.array.program size a.toNat 0 p }).begin n else c
  | .sectorErase4k a =>
      if c.wel then ({ c with array := c.array.eraseRange (unitBase a.toNat sectorSize) sectorSize }).begin n else c
  | .blockErase32k a =>
      if c.wel then ({ c with array := c.array.eraseRange (unitBase a.toNat blockSize) blockSize }).begin n else c
  | _ => c

/-- What a frame does to the chip: one frame of a running cycle elapses; RELEASE POWER-DOWN wakes a chip that is not busy;
everything else is obeyed unless busy or powered down. The "short chip-defined delay" after which the chip is awake is taken
as zero, so that it obeys the very next frame: DESIGN CHOICE, log 26 (the spec leaves the wake-up latency open, U9). -/
def Chip.receive (c : Chip) (size n : Nat) (i : Instr) : Chip :=
  if c.busy then c.elapse
  else if c.asleep then (if i = .releasePowerDown then { c with asleep := false } else c)
  else c.obey size n i

end Sys2Proof.Machine
end

