-- ==== Sys2Proof/Machine/Ops.lean ====
section
/-! DEFINITION. The shared operations of the sequencer: drawing answers, sending a frame through the transport's
primitives (R233 to R236), reading the clock (R228), `Wake()` (R123), `Wait()` (R148), accepting a request (R27) and
returning a result code (R225), which stands in the place of an exception on this hardware (60_exceptions.md). -/

namespace Sys2Proof.Machine

/-- The `k`-th answer still to come from a source. -/
def Source.peek {α : Type} (free : Nat → α) (q : Source α) (k : Nat) : α :=
  (q.script[k]?).getD (free (q.drawn + k))

/-- The next `n` answers. -/
def Source.ahead {α : Type} (free : Nat → α) (q : Source α) (n : Nat) : List α :=
  (List.range n).map (q.peek free)

/-- The source after `n` answers are taken. -/
def Source.skip {α : Type} (q : Source α) (n : Nat) : Source α := ⟨q.script.drop n, q.drawn + n⟩

/-- The bytes received during a frame of command `i`, `n` bytes long: one per byte sent (R80). The oracle answers any
bytes (R237); the reference chip answers what it drives, and any byte where it drives nothing. -/
def State.received (s : State) (i : Instr) (n : Nat) : List Byte :=
  match s.answers with
  | .oracle => s.rx.ahead Config.freeRx n
  | .chip => List.zipWith (fun b (o : Option Byte) => o.getD b) (s.rx.ahead Config.freeRx n) (s.chip.reply s.flashSize i)

/-- `Frame(mosi) -> miso` for the frame of command `i` (R80): one event, the received bytes kept in `miso`, the transfer
buffer empty again, and the chip having received the frame. -/
def State.transmit (s : State) (i : Instr) : State :=
  let mosi := (encodeFrame i).getD []
  let miso := s.received i mosi.length
  { s with
    trace := s.trace ++ [.frame mosi miso]
    miso := miso
    frame := none
    rx := s.rx.skip mosi.length
    cycles := if s.chip.starts i then s.cycles.skip 1 else s.cycles
    chip := s.chip.receive s.flashSize (s.cycles.peek Config.freeCycle 0) i }

/-- `transferByte(byte) -> byte`: one frame of length 1 (R233). -/
def State.transferByte (s : State) (i : Instr) : Byte × State :=
  let s' := s.transmit i
  (s'.miso.getD 0 0, s')

/-- `transferRegister(opcode, value) -> byte`: one frame of length 2, whose result is `miso[1]` (R235). -/
def State.transferRegister (s : State) (i : Instr) : Byte × State :=
  let s' := s.transmit i
  (s'.miso.getD 1 0, s')

/-- `transferBulk(buffer, length)`: one frame, whose result is every byte received (R234). -/
def State.transferBulk (s : State) (i : Instr) : List Byte × State :=
  let s' := s.transmit i
  (s'.miso, s')

/-- A wire command needs a configured bus (R121, R254; log 21). -/
def State.onBus (s : State) (s' : State) : Out :=
  if s.transportReady then .next s' else .fault .busNotConfigured

/-- `initializeAsController()`: event `BusInit` (R236). -/
def State.initializeAsController (s : State) : State :=
  { s with trace := s.trace ++ [.busInit], transportReady := true }

/-- `Now()` (R228): the tick is the last one plus an increment, so that answers never decrease (R229; log 7). -/
def State.readClock (s : State) : State :=
  let t := s.clock + s.ticks.peek Config.freeTick 0
  { s with trace := s.trace ++ [.now t], clock := t, ticks := s.ticks.skip 1 }

/-- `t0 <- Now()` (R148). -/
def State.markStart (s : State) : State := { s.readClock with t0 := s.readClock.clock }

/-- `seq <- PHASE` (00_scope.md section 6.2). -/
def State.goto (s : State) (k : Seq) : State := { s with seq := k }

/-- Compose a wire command in the transfer buffer; the next step sends it (log 9). -/
def State.post (s : State) (i : Instr) : State := { s with frame := encodeFrame i }

/-- Take `n` filler bytes (R86). -/
def State.fillers (s : State) (n : Nat) : List Byte := s.fill.ahead Config.freeFill n

/-- The state after `n` filler bytes are taken. -/
def State.tookFillers (s : State) (n : Nat) : State := { s with fill := s.fill.skip n }

/-- `return E` (R225): the response is delivered, `seq <- IDLE`, and nothing else happens. There is no handler, no vector
and no saved state. REQ keeps the request until the next one is read: DESIGN CHOICE, log 27 (R28 does not say what it holds
after the response). -/
def State.respond (s : State) (err : Result) (value : Option RespValue) (data : Option (List Byte)) : State :=
  { s with seq := .idle, resp := some ⟨err, value, data⟩, responses := s.responses ++ [⟨err, value, data⟩] }

/-- A result code with neither value nor data. -/
def State.answer (s : State) (err : Result) : State := s.respond err none none

/-- A request is accepted: the response record is empty until the operation ends (R27, R29; log 19). -/
def State.accept (s : State) : State := { s with resp := none }

/-- Accept any operation but INIT: refused while `inited = 0` (R23, R254). -/
def State.begin (s : State) (go : State → State) : Out :=
  if s.inited then .next (go s.accept) else .refused .notInitialised

/-- `Wake()` before `go` (R123): while `poweredDown = 1` the release frame is composed and the operation stays at its
point; the sent frame clears the flag. -/
def State.wakeThen (s : State) (go : State → State) : State :=
  if s.poweredDown then s.post .releasePowerDown else go s

/-- Send one status poll `[0x05, DUMMY]` (R146). -/
def State.postPoll (s : State) : State :=
  (s.tookFillers 1).post (.readStatusRegister ((s.fillers 1).getD 0 0))

/-- One point of `Wait()` (R148). `at_` places the points in the operation that waits, `done` is where the result goes. -/
def State.waitStep (s : State) (at_ : WaitPoint → Seq) (done : Result → State → State) : WaitPoint → State
  | .start => s.wakeThen fun s => s.markStart.goto (at_ .poll)
  | .poll => s.wakeThen fun s => s.postPoll.goto (at_ .test)
  | .test => if busyBit s.st then s.goto (at_ .time) else done .success s
  | .time =>
      let s := s.readClock
      if timedOut s.t0 s.clock then done .timeout s else s.goto (at_ .poll)

end Sys2Proof.Machine
end

