-- ==== Sys2Proof/Machine/Erase.lean ====
section
/-! DEFINITION. ERASE and its decomposition into block and sector units (42_erase.md). -/

namespace Sys2Proof.Machine

/-- Where the `Wait()` of an erase unit leads (R165, R166, R167): on Success `cur` and `rem` advance and the loop of the
unit goes on, else the operation ends with that result. -/
def eraseUnitDone (u : EraseSize) (r : Result) (s : State) : State :=
  match r with
  | .success => { s with cur := s.cur + u.bytes, rem := s.rem - u.bytes }.goto (.erase u.loopHead)
  | r => s.answer r

/-- ERASE (R167). -/
def execErase (offset length : Operand) (s : State) : Out :=
  match s.seq with
  | .idle => s.begin fun s =>
      if eraseRejects s.flashSize offset length then s.answer .inputValue else s.goto (.erase .wake)
  | .erase .wake => .next (s.wakeThen fun s =>
      { s with cur := offset.toNat, rem := length.toNat }.goto (.erase .blocks))
  | .erase .blocks => .next (s.goto (.erase (if blockFits s.cur s.rem then .wen .block else .sectors)))
  | .erase .sectors => .next (if s.rem > 0 then s.goto (.erase (.wen .sector)) else s.answer .success)
  | .erase (.wen u) => .next (
      if s.cur % u.bytes ≠ 0 then s.answer .inputValue
      else (s.post .writeEnable).goto (.erase (.cmd u)))
  | .erase (.cmd u) => .next ((s.post (u.command s.cur)).goto (.erase (.waiting u .start)))
  | .erase (.waiting u w) => .next (s.waitStep (fun w => .erase (.waiting u w)) (eraseUnitDone u) w)
  | _ => .refused .requestWhileBusy

end Sys2Proof.Machine
end

