-- ==== Sys2Proof/Machine/Identity.lean ====
section
/-! DEFINITION. The identity queries GET_JEDEC_ID (R207) and GET_UNIQUE_ID (R210). -/

namespace Sys2Proof.Machine

/-- GET_JEDEC_ID (R207): `Wake()`, one 0x9F frame, three bytes packed big-endian. -/
def execGetJedecId (s : State) : Out :=
  match s.seq with
  | .idle => s.begin fun s => s.goto (.getJedecId .wake)
  | .getJedecId .wake => .next (s.wakeThen fun s => s.goto (.getJedecId .cmd))
  | .getJedecId .cmd => .next (((s.tookFillers 3).post (.jedecId (s.fillers 3))).goto (.getJedecId .finish))
  | .getJedecId .finish => .next (s.respond .success (some (jedecValue s.miso)) none)
  | _ => .refused .requestWhileBusy

/-- GET_UNIQUE_ID (R210): `Wake()`, one 0x4B frame, eight bytes packed big-endian. -/
def execGetUniqueId (s : State) : Out :=
  match s.seq with
  | .idle => s.begin fun s => s.goto (.getUniqueId .wake)
  | .getUniqueId .wake => .next (s.wakeThen fun s => s.goto (.getUniqueId .cmd))
  | .getUniqueId .cmd => .next
      (((s.tookFillers 12).post (.readUniqueId (s.fillers 12))).goto (.getUniqueId .finish))
  | .getUniqueId .finish => .next (s.respond .success (some (uniqueValue s.miso)) none)
  | _ => .refused .requestWhileBusy

end Sys2Proof.Machine
end

