-- ==== Sys2Proof/Machine/Power.lean ====
section
/-! DEFINITION. The power-state operations INIT (R121) and SLEEP (R126). -/

namespace Sys2Proof.Machine

/-- INIT (R121): `BusInit()`, an unconditional `[0xAB]` frame, `inited <- 1`, Success. `poweredDown <- 0` is written when
the frame is sent. -/
def execInit (s : State) : Out :=
  match s.seq with
  | .idle => .next (s.accept.goto (.init .config))
  | .init .config => .next (s.initializeAsController.goto (.init .wake))
  | .init .wake => .next ((s.post .releasePowerDown).goto (.init .finish))
  | .init .finish => .next ({ s with inited := true }.answer .success)
  | _ => .refused .requestWhileBusy

/-- SLEEP (R126): if `poweredDown = 0` the frame `[0xB9]`, else no event; always Success. `poweredDown <- 1` is written
when the frame is sent. -/
def execSleep (s : State) : Out :=
  match s.seq with
  | .idle => s.begin fun s => if s.poweredDown then s.answer .success else s.goto (.sleep .cmd)
  | .sleep .cmd => .next ((s.post .powerDown).goto (.sleep .finish))
  | .sleep .finish => .next (s.answer .success)
  | _ => .refused .requestWhileBusy

end Sys2Proof.Machine
end

