-- ==== Sys2Proof/Machine/Read.lean ====
section
/-! DEFINITION. READ (44_read.md). -/

namespace Sys2Proof.Machine

/-- READ (R199): the bounds check, `Wake()`, one frame with `length` fillers, the payload into `RESP.data`, Success. -/
def execRead (offset length : Operand) (s : State) : Out :=
  match s.seq with
  | .idle => s.begin fun s =>
      if exceedsFlash s.flashSize offset length then s.answer .inputValue else s.goto (.read .wake)
  | .read .wake => .next (s.wakeThen fun s => s.goto (.read .cmd))
  | .read .cmd => .next (((s.tookFillers length.toNat).post
      (.readData (wireAddr offset.toNat) (s.fillers length.toNat))).goto (.read .finish))
  | .read .finish => .next (s.respond .success none (some (readPayload s.miso length)))
  | _ => .refused .requestWhileBusy

end Sys2Proof.Machine
end

