-- ==== Sys2Proof/Machine/Status.lean ====
section
/-! DEFINITION. Status access and the busy-wait: WAIT (R149), GET_STATUS (R147), SET_STATUS (R151). -/

namespace Sys2Proof.Machine

/-- WAIT (R149): exactly the procedure `Wait()`. -/
def execWait (s : State) : Out :=
  match s.seq with
  | .idle => s.begin fun s => s.goto (.wait .start)
  | .wait w => .next (s.waitStep .wait (fun r s => s.answer r) w)
  | _ => .refused .requestWhileBusy

/-- GET_STATUS (R147): `Wake()`, one status frame, the raw byte zero-extended into `RESP.value`. -/
def execGetStatus (s : State) : Out :=
  match s.seq with
  | .idle => s.begin fun s => s.goto (.getStatus .poll)
  | .getStatus .poll => .next (s.wakeThen fun s => s.postPoll.goto (.getStatus .finish))
  | .getStatus .finish => .next (s.respond .success (some (s.st.setWidth 64)) none)
  | _ => .refused .requestWhileBusy

/-- SET_STATUS (R151): `Wake()`, `[0x06]`, `[0x01, value]`, `Wait()` and its result. -/
def execSetStatus (v : Byte) (s : State) : Out :=
  match s.seq with
  | .idle => s.begin fun s => s.goto (.setStatus .wake)
  | .setStatus .wake => .next (s.wakeThen fun s => s.goto (.setStatus .wen))
  | .setStatus .wen => .next ((s.post .writeEnable).goto (.setStatus .cmd))
  | .setStatus .cmd => .next ((s.post (.writeStatusRegister v)).goto (.setStatus (.waiting .start)))
  | .setStatus (.waiting w) =>
      .next (s.waitStep (fun w => .setStatus (.waiting w)) (fun r s => s.answer r) w)
  | _ => .refused .requestWhileBusy

end Sys2Proof.Machine
end

