-- ==== Sys2Proof/Machine/Wire.lean ====
section
/-! DEFINITION. The eleven wire commands (R87): each sends its one frame through the primitive R105 assigns it. -/

namespace Sys2Proof.Machine

/-- WRITE STATUS REGISTER, `[0x01, v]` (R142): "both received bytes are ignored". -/
def execWriteStatusRegister (v : Byte) (s : State) : Out :=
  s.onBus (s.transferRegister (.writeStatusRegister v)).2

/-- PAGE PROGRAM, `[0x02] ++ Addr3(a) ++ P` (R186): all received bytes are ignored. -/
def execPageProgram (a : FlashAddr) (p : List Byte) (s : State) : Out :=
  s.onBus (s.transferBulk (.pageProgram a p)).2

/-- READ DATA, `[0x03] ++ Addr3(a) ++ DUMMY^n` (R196): the payload stays in `miso`. -/
def execReadData (a : FlashAddr) (xs : List Byte) (s : State) : Out :=
  s.onBus (s.transferBulk (.readData a xs)).2

/-- READ STATUS REGISTER, `[0x05, DUMMY]` (R141): "the byte received at position 1 is the status byte", kept in `st`
(R25, R146). -/
def execReadStatusRegister (x : Byte) (s : State) : Out :=
  s.onBus { (s.transferRegister (.readStatusRegister x)).2 with
    st := (s.transferRegister (.readStatusRegister x)).1 }

/-- WRITE ENABLE, `[0x06]` (R143). -/
def execWriteEnable (s : State) : Out := s.onBus (s.transferByte .writeEnable).2

/-- SECTOR ERASE 4K, `[0x20] ++ Addr3(a)` (R160). -/
def execSectorErase4k (a : FlashAddr) (s : State) : Out := s.onBus (s.transferBulk (.sectorErase4k a)).2

/-- READ UNIQUE ID, `[0x4B] ++ DUMMY^4 ++ DUMMY^8` (R209): the answer stays in `miso`. -/
def execReadUniqueId (xs : List Byte) (s : State) : Out := s.onBus (s.transferBulk (.readUniqueId xs)).2

/-- BLOCK ERASE 32K, `[0x52] ++ Addr3(a)` (R161). -/
def execBlockErase32k (a : FlashAddr) (s : State) : Out := s.onBus (s.transferBulk (.blockErase32k a)).2

/-- RELEASE POWER-DOWN, `[0xAB]` (R122), and `poweredDown <- 0`, which follows every frame of it (R121, R123; log 9). -/
def execReleasePowerDown (s : State) : Out :=
  s.onBus { (s.transferByte .releasePowerDown).2 with poweredDown := false }

/-- POWER DOWN, `[0xB9]` (R125), and `poweredDown <- 1`, which follows every frame of it (R126; log 9). -/
def execPowerDown (s : State) : Out := s.onBus { (s.transferByte .powerDown).2 with poweredDown := true }

/-- JEDEC ID, `[0x9F, DUMMY, DUMMY, DUMMY]` (R206): the answer stays in `miso`. -/
def execJedecId (xs : List Byte) (s : State) : Out := s.onBus (s.transferBulk (.jedecId xs)).2

end Sys2Proof.Machine
end

