-- ==== Sys2Proof/Machine/Write.lean ====
section
/-! DEFINITION. WRITE and its split at page boundaries (43_write.md). -/

namespace Sys2Proof.Machine

/-- Where the `Wait()` before a chunk leads (R184): on Success the chunk is sent, else the operation ends with that
result and the remainder unwritten. -/
def writeChunkReady (r : Result) (s : State) : State :=
  match r with
  | .success => s.goto (.write .wen)
  | r => s.answer r

/-- WRITE (R184). Absent data never passes the checks; past them it stands for no byte. -/
def execWrite (data : Option (List Byte)) (offset length : Operand) (s : State) : Out :=
  match s.seq with
  | .idle => s.begin fun s =>
      if writeRejects s.flashSize data offset length then s.answer .inputValue else s.goto (.write .wake)
  | .write .wake => .next (s.wakeThen fun s =>
      { s with cur := offset.toNat, rem := length.toNat, idx := 0 }.goto (.write .chunks))
  | .write .chunks => .next (
      if s.rem > 0 then { s with chunk := chunkSize s.cur s.rem }.goto (.write (.waitChunk .start))
      else s.goto (.write (.waitLast .start)))
  | .write (.waitChunk w) => .next (s.waitStep (fun w => .write (.waitChunk w)) writeChunkReady w)
  | .write .wen => .next ((s.post .writeEnable).goto (.write .cmd))
  | .write .cmd => .next
      ((s.post (.pageProgram (wireAddr s.cur) (slice (data.getD []) s.idx s.chunk))).goto (.write .advance))
  | .write .advance => .next
      ({ s with cur := s.cur + s.chunk, idx := s.idx + s.chunk, rem := s.rem - s.chunk }.goto (.write .chunks))
  | .write (.waitLast w) => .next (s.waitStep (fun w => .write (.waitLast w)) (fun r s => s.answer r) w)
  | _ => .refused .requestWhileBusy

end Sys2Proof.Machine
end

