-- ==== Sys2Proof/Machine/Dispatch.lean ====
section
/-! DEFINITION. One arm per instruction. -/

namespace Sys2Proof.Machine

def exec (i : Instr) (s : State) : Host.Outcome State Fault Refusal :=
  match i with
  -- the wire commands
  | .writeStatusRegister v => Sys2Proof.Machine.execWriteStatusRegister v s
  | .pageProgram a p => Sys2Proof.Machine.execPageProgram a p s
  | .readData a xs => Sys2Proof.Machine.execReadData a xs s
  | .readStatusRegister x => Sys2Proof.Machine.execReadStatusRegister x s
  | .writeEnable => Sys2Proof.Machine.execWriteEnable s
  | .sectorErase4k a => Sys2Proof.Machine.execSectorErase4k a s
  | .readUniqueId xs => Sys2Proof.Machine.execReadUniqueId xs s
  | .blockErase32k a => Sys2Proof.Machine.execBlockErase32k a s
  | .releasePowerDown => Sys2Proof.Machine.execReleasePowerDown s
  | .powerDown => Sys2Proof.Machine.execPowerDown s
  | .jedecId xs => Sys2Proof.Machine.execJedecId xs s
  -- the host operations
  | .init => Sys2Proof.Machine.execInit s
  | .sleep => Sys2Proof.Machine.execSleep s
  | .wait => Sys2Proof.Machine.execWait s
  | .getStatus => Sys2Proof.Machine.execGetStatus s
  | .setStatus v => Sys2Proof.Machine.execSetStatus v s
  | .erase offset length => Sys2Proof.Machine.execErase offset length s
  | .write data offset length => Sys2Proof.Machine.execWrite data offset length s
  | .read offset length => Sys2Proof.Machine.execRead offset length s
  | .getJedecId => Sys2Proof.Machine.execGetJedecId s
  | .getUniqueId => Sys2Proof.Machine.execGetUniqueId s

end Sys2Proof.Machine
end

