-- ==== Sys2Proof/Machine/Fetch.lean ====
section
/-! DEFINITION. What the sequencer does next: it sends the composed frame, or goes on with the running operation, or reads
the host's next request (R27, R269). -/

namespace Sys2Proof.Machine

/-- What a step runs. -/
inductive Fetch where
  /-- this instruction, on this state -/
  | run (i : Instr) (s : State)
  /-- nothing: IDLE and no request -/
  | idle
  /-- what stands there has no meaning -/
  | refuse (r : Refusal)
  deriving DecidableEq, Repr

/-- A composed frame is sent first. Otherwise an IDLE sequencer takes the host's next request into REQ, and a running
operation goes on with the request REQ holds. Logs 9, 15, 17, 18. -/
def State.fetch (s : State) : Fetch :=
  match s.frame with
  | some bytes =>
    match decodeFrame bytes with
    | .ok i => .run i s
    | .error e => .refuse (.illegalFrame e)
  | none =>
    match s.seq with
    | .idle =>
      match s.requests with
      | [] => .idle
      | r :: rest =>
        match decodeRequest r with
        | .ok i => .run i { s with requests := rest, req := some r }
        | .error e => .refuse (.illegalRequest e)
    | _ =>
      match s.req with
      | none => .refuse .noRequest
      | some r =>
        match decodeRequest r with
        | .ok i => .run i s
        | .error e => .refuse (.illegalRequest e)

/-- Place an encoded instruction where the next step runs it (log 15): a frame in the transfer buffer, on a configured
bus; a request as the host's next, with the sequencer IDLE and, for every operation but INIT, as INIT leaves it. -/
def State.place (s : State) : Encoded → State
  | .frame bytes => { s with frame := some bytes, transportReady := true }
  | .request r =>
    { s with
      frame := none
      seq := .idle
      requests := r :: s.requests
      inited := s.inited || decide (r.op ≠ 0#4)
      transportReady := s.transportReady || decide (r.op ≠ 0#4) }

end Sys2Proof.Machine
end

