-- ==== Sys2Proof/Machine/Step.lean ====
section
/-! DEFINITION. One step: one event or one internal transition of the sequencer (R27). -/

namespace Sys2Proof.Machine

/-- One step of the machine. IDLE with no request stays as it is (R242; log 17). -/
def step (s : State) : Host.Outcome State Fault Refusal :=
  match s.fetch with
  | .run i s' => exec i s'
  | .idle => .next s
  | .refuse r => .refused r

/-- `s` with the instruction of a table word stored where `step` finds its next instruction (logs 15, 16). -/
def State.withFetchWord (s : State) (nbits w : Nat) : State := s.place (tableEncoded nbits w)

end Sys2Proof.Machine
end

