-- ==== Sys2Proof/Safety.lean ====
section
/-! DEFINITION. The words claims are stated in: runs of the machine, what a trace says, and the invariants of the
sequencer (10_state.md R22, R25; 20_memory.md R72; 95_test_vectors.md section 4). -/

namespace Sys2Proof.Machine

/-- `n` steps, stopping at the first stop. -/
def steps : Nat → State → Out
  | 0, s => .next s
  | n + 1, s =>
    match step s with
    | .next s' => steps n s'
    | .fault r => .fault r
    | .refused r => .refused r

/-- Instructions one after another, stopping at the first stop. -/
def execAll : List Instr → State → Out
  | [], s => .next s
  | i :: is, s =>
    match exec i s with
    | .next s' => execAll is s'
    | .fault r => .fault r
    | .refused r => .refused r

/-- `exec` of the instruction answers a next state, and from there the machine's own steps reach `u`. -/
def Completes (i : Instr) (s u : State) : Prop := ∃ t, exec i s = .next t ∧ ∃ n, steps n t = .next u

/-- The sequencer is IDLE, nothing is being sent, and REQ holds the operation `i`. -/
def Presented (i : Instr) (s : State) : Prop :=
  s.seq = .idle ∧ s.frame = none ∧ ∃ r, s.req = some r ∧ decodeRequest r = .ok i

/-- `i` is presented to a sequencer that INIT has run on (R254). -/
def Ready (i : Instr) (s : State) : Prop := Presented i s ∧ s.inited = true ∧ s.transportReady = true

/-- The operation has ended with response `r` (R225, R29). -/
def Answered (s u : State) (r : Response) : Prop :=
  u.seq = .idle ∧ u.frame = none ∧ u.resp = some r ∧ u.responses = s.responses ++ [r]

/-! ### Frames of statements -/

/-- Everything but the registers a wire command may write and the outside world. -/
def SameOperation (s t : State) : Prop :=
  t.flashSize = s.flashSize ∧ t.inited = s.inited ∧ t.transportReady = s.transportReady ∧ t.seq = s.seq ∧
  t.req = s.req ∧ t.resp = s.resp ∧ t.cur = s.cur ∧ t.rem = s.rem ∧ t.chunk = s.chunk ∧ t.idx = s.idx ∧ t.t0 = s.t0 ∧
  t.requests = s.requests ∧ t.responses = s.responses ∧ t.answers = s.answers ∧ t.fill = s.fill ∧ t.ticks = s.ticks ∧
  t.clock = s.clock

/-- One frame `bytes` was sent, one byte received per byte sent (R80), and the transfer buffer is empty. -/
def SentFrame (bytes : List Byte) (s t : State) : Prop :=
  t.trace = s.trace ++ [.frame bytes t.miso] ∧ t.miso.length = bytes.length ∧ t.frame = none ∧
  t.rx = s.rx.skip bytes.length

/-- What no operation but ERASE and WRITE, and no operation that does not wait, ever writes. That REQ and the working
registers keep their values when the operation is over is the model's choice (logs 27 and 4, DESIGN CHOICE). -/
def SameWork (s u : State) : Prop :=
  u.flashSize = s.flashSize ∧ u.req = s.req ∧ u.cur = s.cur ∧ u.rem = s.rem ∧ u.chunk = s.chunk ∧ u.idx = s.idx ∧
  u.t0 = s.t0 ∧ u.requests = s.requests ∧ u.answers = s.answers ∧ u.ticks = s.ticks ∧ u.clock = s.clock

/-- The events `Wake()` adds: one `[0xAB]` frame if `poweredDown = 1`, else nothing (R123). -/
def WakeEvents (s : State) (w : List Event) : Prop :=
  if s.poweredDown then ∃ m : List Byte, m.length = 1 ∧ w = [.frame [0xAB#8] m] else w = []

/-! ### Traces -/

/-- The bytes of the frames sent, in order. -/
def framesSent (tr : List Event) : List (List Byte) :=
  tr.filterMap fun e => match e with
    | .frame m _ => some m
    | .busInit => none
    | .now _ => none

/-- The frames sent that are not status polls. -/
def commandsSent (tr : List Event) : List (List Byte) :=
  (framesSent tr).filter fun m => decide (m.head? ≠ some 0x05#8)

/-- How many status polls a trace holds. -/
def pollCount (tr : List Event) : Nat := ((framesSent tr).filter fun m => decide (m.head? = some 0x05#8)).length

/-- The ticks of the clock reads, in order. -/
def ticksRead (tr : List Event) : List Nat :=
  tr.filterMap fun e => match e with
    | .now t => some t
    | .busInit => none
    | .frame _ _ => none

/-- What a frame says about the chip's power: `[0xB9]` down, `[0xAB]` up (R22). -/
def powerSaid : Event → Option Bool
  | .frame m _ => if m = [0xB9#8] then some true else if m = [0xAB#8] then some false else none
  | .busInit => none
  | .now _ => none

/-- The last of the frames `[0xB9]` and `[0xAB]` that was sent (R22). -/
def lastPower (tr : List Event) : Option Bool := (tr.filterMap powerSaid).getLast?

/-- The frames that a write-enable frame must directly precede: 0x01, 0x02, 0x20 and 0x52 (R72). -/
def needsLatch (m : List Byte) : Bool :=
  decide (m.head? = some 0x01#8) || decide (m.head? = some 0x02#8) || decide (m.head? = some 0x20#8) ||
    decide (m.head? = some 0x52#8)

/-- Whether an event is the frame `[0x06]`. -/
def isWriteEnable : Event → Bool
  | .frame m _ => decide (m = [0x06#8])
  | .busInit => false
  | .now _ => false

/-- Whether an event is a frame that needs the latch. -/
def isLatched : Event → Bool
  | .frame m _ => needsLatch m
  | .busInit => false
  | .now _ => false

/-- Read a trace for the discipline of R72: `none` if a frame that needs the latch is not directly preceded by `[0x06]`
or a `[0x06]` is directly followed by anything else; else whether the last event is a `[0x06]`. -/
def latchScan : Bool → List Event → Option Bool
  | armed, [] => some armed
  | armed, e :: es =>
    if armed = isLatched e then latchScan (isWriteEnable e) es else none

/-- The frame lengths of the format of each opcode (R82, R89): F-OP 1, F-REG 2, F-ADDR 4, F-ADDR-WR 5 to 260, F-ADDR-RD
4 and more, JEDEC ID 4, READ UNIQUE ID 13; none for any other first byte (R83). -/
def frameLengthFits (op : Byte) (n : Nat) : Prop :=
  (op ∈ [0x06#8, 0xAB#8, 0xB9#8] ∧ n = 1) ∨ (op ∈ [0x01#8, 0x05#8] ∧ n = 2) ∨
  (op ∈ [0x20#8, 0x52#8, 0x9F#8] ∧ n = 4) ∨ (op = 0x02#8 ∧ 5 ≤ n ∧ n ≤ 260) ∨ (op = 0x03#8 ∧ 4 ≤ n) ∨
  (op = 0x4B#8 ∧ n = 13)

/-! ### Waiting -/

/-- The tick the `k`-th of the coming clock reads answers. -/
def tickAt (s : State) : Nat → Nat
  | 0 => s.clock + s.ticks.peek Config.freeTick 0
  | k + 1 => tickAt s k + s.ticks.peek Config.freeTick (k + 1)

/-- How many bytes `Wake()` receives: one if it sends its frame (R123). -/
def wakeBytes (s : State) : Nat := if s.poweredDown then 1 else 0

/-- The bytes the `k`-th of the coming status polls receives from the oracle, after the wake. -/
def pollReceived (s : State) (k : Nat) : List Byte :=
  [s.rx.peek Config.freeRx (wakeBytes s + 2 * k), s.rx.peek Config.freeRx (wakeBytes s + 2 * k + 1)]

/-- Whether the `k`-th of the coming status polls finds the chip busy. -/
def pollBusy (s : State) (k : Nat) : Bool := busyBit (s.rx.peek Config.freeRx (wakeBytes s + 2 * k + 1))

/-- The event of the `k`-th of the coming status polls. -/
def pollEvent (s : State) (k : Nat) : Event :=
  .frame [0x05#8, s.fill.peek Config.freeFill k] (pollReceived s k)

/-- The events of a `Wait()` after its wake, up to its `p`-th poll (R150): the first clock read, then `p` busy polls each with the clock
read that follows it. -/
def waitPrefix (s : State) (p : Nat) : List Event :=
  .now (tickAt s 0) :: (List.range p).flatMap fun k => [pollEvent s k, .now (tickAt s (k + 1))]

/-- The five places where an operation runs `Wait()` (R221): WAIT, SET_STATUS, after an erase unit, before a chunk, after
the last chunk. -/
inductive WaitPlace where
  | wait | setStatus
  | eraseUnit (u : EraseSize)
  | writeChunk | writeLast
  deriving DecidableEq, Repr

/-- The points of the `Wait()` of a place. -/
def WaitPlace.at_ : WaitPlace → WaitPoint → Seq
  | .wait, w => .wait w
  | .setStatus, w => .setStatus (.waiting w)
  | .eraseUnit u, w => .erase (.waiting u w)
  | .writeChunk, w => .write (.waitChunk w)
  | .writeLast, w => .write (.waitLast w)

/-- Whether an instruction is the operation a place belongs to. -/
def WaitPlace.belongs : WaitPlace → Instr → Bool
  | .wait, i => decide (i = .wait)
  | .setStatus, .setStatus _ => true
  | .eraseUnit _, .erase _ _ => true
  | .writeChunk, .write _ _ _ => true
  | .writeLast, .write _ _ _ => true
  | _, _ => false

/-- What follows a `Wait()` that answered Success: WAIT, SET_STATUS and WRITE's last wait answer it, ERASE advances by one
unit (R165, R166), WRITE goes on to the chunk (R184). -/
def WaitPlace.succeeded (s : State) : WaitPlace → State
  | .wait => s.answer .success
  | .setStatus => s.answer .success
  | .eraseUnit .block => { s with cur := s.cur + 32768, rem := s.rem - 32768, seq := .erase .blocks }
  | .eraseUnit .sector => { s with cur := s.cur + 4096, rem := s.rem - 4096, seq := .erase .sectors }
  | .writeChunk => { s with seq := .write .wen }
  | .writeLast => s.answer .success

/-- The result codes an instruction can answer (R220, R222). -/
def mayAnswer : Instr → Result → Bool
  | .init, r => decide (r = .success)
  | .sleep, r => decide (r = .success)
  | .wait, r => decide (r = .success) || decide (r = .timeout)
  | .getStatus, r => decide (r = .success)
  | .setStatus _, r => decide (r = .success) || decide (r = .timeout)
  | .erase _ _, r => decide (r = .success) || decide (r = .timeout) || decide (r = .inputValue)
  | .write _ _ _, r => decide (r = .success) || decide (r = .timeout) || decide (r = .inputValue)
  | .read _ _, r => decide (r = .success) || decide (r = .inputValue)
  | .getJedecId, r => decide (r = .success)
  | .getUniqueId, r => decide (r = .success)
  | _, _ => false

/-! ### Layouts -/

/-- The erase frames of an accepted ERASE, in order (R168). -/
def eraseLayout (offset length : Nat) : List (List Byte) :=
  let nb := if offset % 32768 = 0 then length / 32768 else 0
  let ns := if offset % 32768 = 0 then length % 32768 / 4096 else length / 4096
  (List.range nb).map (fun i => 0x52#8 :: addr3 (wireAddr (offset + 32768 * i))) ++
    (List.range ns).map (fun j => 0x20#8 :: addr3 (wireAddr (offset + 32768 * nb + 4096 * j)))

/-- The number of pages an accepted WRITE touches (R185). -/
def pageCount (offset length : Nat) : Nat :=
  if length = 0 then 0 else (offset + length - 1) / 256 - offset / 256 + 1

/-- Where chunk `i` of a WRITE starts (R185). -/
def chunkStart (offset i : Nat) : Nat := if i = 0 then offset else 256 * (offset / 256 + i)

/-- Where chunk `i` of a WRITE ends: at the page's end or at the end of the request (R185). -/
def chunkEnd (offset length i : Nat) : Nat := min (256 * (offset / 256 + i + 1)) (offset + length)

/-- How many bytes of the request lie before chunk `i`; for the number of chunks, all of them (R185). -/
def bytesBefore (offset length i : Nat) : Nat := if i = 0 then 0 else chunkEnd offset length (i - 1) - offset

/-- The program frames of an accepted WRITE, in order (R185). -/
def writeLayout (data : List Byte) (offset length : Nat) : List (List Byte) :=
  (List.range (pageCount offset length)).map fun i =>
    0x02#8 :: addr3 (wireAddr (chunkStart offset i)) ++
      (data.drop (chunkStart offset i - offset)).take (chunkEnd offset length i - chunkStart offset i)

/-! ### Invariants -/

/-- The frames that may stand composed at a point (what each point's pseudocode line sends). -/
def frameFits : Seq → List Byte → Bool
  | .idle, _ => false
  | .init k, m => decide (k = .finish) && decide (m = [0xAB#8])
  | .sleep k, m => decide (k = .finish) && decide (m = [0xB9#8])
  | .wait k, m => waitFits k m
  | .getStatus .poll, m => decide (m = [0xAB#8])
  | .getStatus .finish, m => decide (m.head? = some 0x05#8)
  | .setStatus .wake, m => decide (m = [0xAB#8])
  | .setStatus .wen, _ => false
  | .setStatus .cmd, m => decide (m = [0x06#8])
  | .setStatus (.waiting w), m => waitFits w m || (decide (w = .start) && decide (m.head? = some 0x01#8))
  | .erase .wake, m => decide (m = [0xAB#8])
  | .erase .blocks, _ => false
  | .erase .sectors, _ => false
  | .erase (.wen _), _ => false
  | .erase (.cmd _), m => decide (m = [0x06#8])
  | .erase (.waiting .block w), m => waitFits w m || (decide (w = .start) && decide (m.head? = some 0x52#8))
  | .erase (.waiting .sector w), m => waitFits w m || (decide (w = .start) && decide (m.head? = some 0x20#8))
  | .write .wake, m => decide (m = [0xAB#8])
  | .write .chunks, _ => false
  | .write (.waitChunk w), m => waitFits w m
  | .write .wen, _ => false
  | .write .cmd, m => decide (m = [0x06#8])
  | .write .advance, m => decide (m.head? = some 0x02#8)
  | .write (.waitLast w), m => waitFits w m
  | .read k, m => queryFits k 0x03#8 m
  | .getJedecId k, m => queryFits k 0x9F#8 m
  | .getUniqueId k, m => queryFits k 0x4B#8 m
where
  /-- a release frame before the clock read or the poll, the poll itself before the test -/
  waitFits : WaitPoint → List Byte → Bool
    | .start, m => decide (m = [0xAB#8])
    | .poll, m => decide (m = [0xAB#8])
    | .test, m => decide (m.head? = some 0x05#8)
    | .time, _ => false
  /-- a release frame at the wake, the query's own frame before its end -/
  queryFits : QueryPoint → Byte → List Byte → Bool
    | .wake, _, m => decide (m = [0xAB#8])
    | .cmd, _, _ => false
    | .finish, op, m => decide (m.head? = some op)

/-- The composed frame, if there is one, belongs to the point the sequencer is at. -/
def FramePlaced (s : State) : Prop := ∀ m, s.frame = some m → frameFits s.seq m = true

/-- The point at which the operation's latched command is composed. -/
def atCommand : Seq → Bool
  | .setStatus .cmd => true
  | .erase (.cmd _) => true
  | .write .cmd => true
  | _ => false

/-- Whether the write-enable frame has been sent and its command has not. -/
def armed (s : State) : Bool :=
  match s.frame with
  | none => atCommand s.seq
  | some m => needsLatch m

/-- The write-enable discipline of R72. -/
def LatchDiscipline (s : State) : Prop := FramePlaced s ∧ latchScan false s.trace = some (armed s)

/-- The invariant of R22: `poweredDown = 1` if and only if the last power frame is `[0xB9]`, once INIT has run; and INIT
has sent its `[0xAB]` by then. -/
def PowerMirror (s : State) : Prop :=
  (∀ b, lastPower s.trace = some b → s.poweredDown = b) ∧
  (s.inited = true → (lastPower s.trace).isSome = true) ∧
  (s.seq = .init .finish → s.frame = some [0xAB#8] ∨ (s.frame = none ∧ (lastPower s.trace).isSome = true))

/-- The clock reads of the trace never decrease, and none is later than the clock (R229). -/
def ClockOrdered (s : State) : Prop :=
  (ticksRead s.trace).Pairwise (· ≤ ·) ∧ ∀ t ∈ ticksRead s.trace, t ≤ s.clock

/-- Every frame of the trace is a frame of one of the eleven commands (R83, R87) that keeps the limits on its address (R160,
R161, R186), with one byte received for each byte sent (R80). -/
def FramesLegal (s : State) : Prop :=
  ∀ m r, .frame m r ∈ s.trace → r.length = m.length ∧ ∃ i, decodeFrame m = .ok i ∧ i.wellFormed = true

/-- The progress of an ERASE of `[offset, offset + length)` at a point (R165, R166, R167). -/
def EraseProgress (s : State) (offset length : Operand) : ErasePoint → Prop
  | .wake => True
  | .blocks => s.cur + s.rem = offset.toNat + length.toNat ∧ s.cur % 4096 = 0 ∧ s.rem % 4096 = 0
  | .sectors => s.cur + s.rem = offset.toNat + length.toNat ∧ s.cur % 4096 = 0 ∧ s.rem % 4096 = 0
  | .wen u => s.cur + s.rem = offset.toNat + length.toNat ∧ s.cur % 4096 = 0 ∧ s.rem % 4096 = 0 ∧
      s.cur % u.bytes = 0 ∧ u.bytes ≤ s.rem
  | .cmd u => s.cur + s.rem = offset.toNat + length.toNat ∧ s.cur % 4096 = 0 ∧ s.rem % 4096 = 0 ∧
      s.cur % u.bytes = 0 ∧ u.bytes ≤ s.rem
  | .waiting u _ => s.cur + s.rem = offset.toNat + length.toNat ∧ s.cur % 4096 = 0 ∧ s.rem % 4096 = 0 ∧
      s.cur % u.bytes = 0 ∧ u.bytes ≤ s.rem

/-- The progress of a WRITE at a point: `cur` and `idx` move together, and the chunk is the one of R183. -/
def WriteProgress (s : State) (offset length : Operand) : WritePoint → Prop
  | .wake => True
  | .chunks => s.cur = offset.toNat + s.idx ∧ s.idx + s.rem = length.toNat
  | .waitChunk _ => s.cur = offset.toNat + s.idx ∧ s.idx + s.rem = length.toNat ∧ 0 < s.rem ∧
      s.chunk = chunkSize s.cur s.rem
  | .wen => s.cur = offset.toNat + s.idx ∧ s.idx + s.rem = length.toNat ∧ 0 < s.rem ∧ s.chunk = chunkSize s.cur s.rem
  | .cmd => s.cur = offset.toNat + s.idx ∧ s.idx + s.rem = length.toNat ∧ 0 < s.rem ∧ s.chunk = chunkSize s.cur s.rem
  | .advance => s.cur = offset.toNat + s.idx ∧ s.idx + s.rem = length.toNat ∧ 0 < s.rem ∧
      s.chunk = chunkSize s.cur s.rem
  | .waitLast _ => s.cur = offset.toNat + s.idx ∧ s.idx + s.rem = length.toNat ∧ s.rem = 0

/-- The operation REQ must hold at a point of `seq`, and how far it has come. -/
def OperationAt (s : State) (i : Instr) : Seq → Prop
  | .idle => True
  | .init _ => i = .init
  | .sleep _ => i = .sleep
  | .wait _ => i = .wait
  | .getStatus _ => i = .getStatus
  | .setStatus _ => ∃ v, i = .setStatus v
  | .erase k => ∃ o n, i = .erase o n ∧ eraseRejects s.flashSize o n = false ∧ EraseProgress s o n k
  | .write k => ∃ d o n, i = .write (some d) o n ∧ d.length = n.toNat ∧ exceedsFlash s.flashSize o n = false ∧
      WriteProgress s o n k
  | .read _ => ∃ o n, i = .read o n ∧ exceedsFlash s.flashSize o n = false
  | .getJedecId _ => i = .getJedecId
  | .getUniqueId _ => i = .getUniqueId

/-- Whether `seq` is before the configuration of the bus in a first INIT. -/
def beforeBus : Seq → Bool
  | .idle => true
  | .init .config => true
  | _ => false

/-- The sequencer is in a state it can get into: FLASH_SIZE is legal (R8), the composed frame is a well-formed command's, REQ
holds the running operation, the working registers are in range, and the bus is configured where it is used. -/
structure Coherent (s : State) : Prop where
  sizePositive : 1 ≤ s.flashSize
  sizeBounded  : s.flashSize ≤ 16777216
  placed       : FramePlaced s
  legal        : ∀ m, s.frame = some m → ∃ i, decodeFrame m = .ok i ∧ i.wellFormed = true
  running      : s.seq ≠ .idle → ∃ r i, s.req = some r ∧ decodeRequest r = .ok i ∧ OperationAt s i s.seq
  initialised  : s.inited = true → s.transportReady = true
  configured   : beforeBus s.seq = false → s.transportReady = true
  canonical    : s.chip.array.wf

/-- The stops the spec orders when the next request is read: it names no operation or carries data of another length
(R102, R28), or it is not INIT and INIT has not run (R254). -/
def OrderedRefusal (s : State) : Prop :=
  s.seq = .idle ∧ s.frame = none ∧ ∃ r rest, s.requests = r :: rest ∧
    ((∃ e, decodeRequest r = .error e ∧ step s = .refused (.illegalRequest e)) ∨
     (∃ i, decodeRequest r = .ok i ∧ i ≠ .init ∧ s.inited = false ∧ step s = .refused .notInitialised))

end Sys2Proof.Machine
end

