-- ==== Sys2Proof/Certificates/Slice0/Obligations.lean ====
section
/-! DEFINITION. The statements for the provers, from the numbered rules of spec/. -/

open Sys2Proof Sys2Proof.Machine

/-! ### Encoding -/

/-- One frame of every command and one request of every number 0 to 9, written out from R82, R87 and R100, decode to the
instruction they stand for, an erase at an address that is no multiple of its unit among them (R89); a request numbered 10 is refused (R102). -/
def Obligations.SpecWordsDecode : Prop :=
  decode (.frame [0x01#8, 0x1C#8]) = .ok (.writeStatusRegister 0x1C#8) ∧
  decode (.frame [0x02#8, 0x00#8, 0x01#8, 0x00#8, 0xAA#8, 0xBB#8]) = .ok (.pageProgram 0x000100#24 [0xAA#8, 0xBB#8]) ∧
  decode (.frame [0x03#8, 0x00#8, 0x00#8, 0xFE#8, 0x11#8]) = .ok (.readData 0x0000FE#24 [0x11#8]) ∧
  decode (.frame [0x05#8, 0x77#8]) = .ok (.readStatusRegister 0x77#8) ∧
  decode (.frame [0x06#8]) = .ok .writeEnable ∧
  decode (.frame [0x20#8, 0x00#8, 0x90#8, 0x00#8]) = .ok (.sectorErase4k 0x009000#24) ∧
  decode (.frame [0x4B#8, 1#8, 2#8, 3#8, 4#8, 5#8, 6#8, 7#8, 8#8, 9#8, 10#8, 11#8, 12#8]) =
    .ok (.readUniqueId [1#8, 2#8, 3#8, 4#8, 5#8, 6#8, 7#8, 8#8, 9#8, 10#8, 11#8, 12#8]) ∧
  decode (.frame [0x52#8, 0x01#8, 0x80#8, 0x00#8]) = .ok (.blockErase32k 0x018000#24) ∧
  decode (.frame [0x52#8, 0x00#8, 0x10#8, 0x00#8]) = .ok (.blockErase32k 0x001000#24) ∧
  decode (.frame [0xAB#8]) = .ok .releasePowerDown ∧
  decode (.frame [0xB9#8]) = .ok .powerDown ∧
  decode (.frame [0x9F#8, 1#8, 2#8, 3#8]) = .ok (.jedecId [1#8, 2#8, 3#8]) ∧
  decode (.request ⟨0#4, 0, 0, 0, none⟩) = .ok .init ∧
  decode (.request ⟨1#4, 0, 0, 0, none⟩) = .ok .sleep ∧
  decode (.request ⟨2#4, 0, 0, 0, none⟩) = .ok .wait ∧
  decode (.request ⟨3#4, 0, 0, 0, none⟩) = .ok .getStatus ∧
  decode (.request ⟨4#4, 0, 0, 0x1C#8, none⟩) = .ok (.setStatus 0x1C#8) ∧
  decode (.request ⟨5#4, 0x1000#32, 0x2000#32, 0, none⟩) = .ok (.erase 0x1000#32 0x2000#32) ∧
  decode (.request ⟨6#4, 7#32, 2#32, 0, some [1#8, 2#8]⟩) = .ok (.write (some [1#8, 2#8]) 7#32 2#32) ∧
  decode (.request ⟨7#4, 5#32, 9#32, 0, none⟩) = .ok (.read 5#32 9#32) ∧
  decode (.request ⟨8#4, 0, 0, 0, none⟩) = .ok .getJedecId ∧
  decode (.request ⟨9#4, 0, 0, 0, none⟩) = .ok .getUniqueId ∧
  decode (.request ⟨10#4, 0, 0, 0, none⟩) = .error .reservedOperation

/-- Decoding what an instruction is encoded as gives the instruction back, for every well-formed instruction and every
operand, and for every address, whatever its value, of a command whose bytes fit its format (R82, R84, R89, R100). -/
def Obligations.DecodeOfEncodeIsIdentity : Prop :=
  (∀ i : Instr, i.wellFormed = true → decode (encode i) = .ok i) ∧
  ∀ i : Instr, i.fitsFormat = true → decode (encode i) = .ok i

/-- Whether a frame decodes depends on byte 0 and its length alone: exactly the frames whose length fits the format of
their opcode decode (R83, R89). What a frame decodes to is the command whose own frame it is, byte for byte (R82). -/
def Obligations.DecodedFrameIsTheCommandsOwn : Prop :=
  (∀ (op : Byte) (rest : List Byte),
    (∃ i, decodeFrame (op :: rest) = .ok i) ↔ frameLengthFits op (op :: rest).length) ∧
  ∀ (b : List Byte) (i : Instr), decodeFrame b = .ok i →
    encode i = .frame b ∧ i.fitsFormat = true ∧ i.isOperation = false

/-- A frame whose first byte is not one of the eleven opcodes stands for no command, whatever follows (R87, R88). -/
def Obligations.ForeignOpcodesAreRefused : Prop :=
  ∀ (op : Byte) (rest : List Byte),
    op ∉ [0x01#8, 0x02#8, 0x03#8, 0x05#8, 0x06#8, 0x20#8, 0x4B#8, 0x52#8, 0xAB#8, 0xB9#8, 0x9F#8] →
    decodeFrame (op :: rest) = .error .unknownOpcode

/-- The address bytes of R84: most significant first, only the low 24 bits, and the decoder's inverse. -/
def Obligations.AddressTravelsMostSignificantFirst : Prop :=
  (∀ n : Nat, addr3 (wireAddr n) = [BitVec.ofNat 8 (n / 65536), BitVec.ofNat 8 (n / 256), BitVec.ofNat 8 n]) ∧
  ∀ a2 a1 a0 : Byte, (addr24 a2 a1 a0).toNat = a2.toNat * 65536 + a1.toNat * 256 + a0.toNat

/-- A request whose number is 10 to 15 (R102), and a WRITE whose data is present and not `length` bytes long (R28), are
refused by the step that reads them. -/
def Obligations.ReservedRequestsAreRefused : Prop :=
  ∀ (s : State) (r : Request) (rest : List Request),
    s.frame = none → s.seq = .idle → s.requests = r :: rest →
    (10 ≤ r.op.toNat → step s = .refused (.illegalRequest .reservedOperation)) ∧
    (∀ d, r.op = 6#4 → r.data = some d → d.length ≠ r.length.toNat →
      step s = .refused (.illegalRequest .dataLength))

/-! ### The step -/

/-- A step runs the decoded instruction: a composed frame first; else the host's next request, loaded into REQ; else the
running operation that REQ holds; and with nothing to do the state stays (log 17, a choice of the model). -/
def Obligations.StepRunsTheDecodedInstruction : Prop :=
  (∀ (s : State) b i, s.frame = some b → decodeFrame b = .ok i → step s = exec i s) ∧
  (∀ (s : State) r rest i, s.frame = none → s.seq = .idle → s.requests = r :: rest → decodeRequest r = .ok i →
    step s = exec i { s with requests := rest, req := some r }) ∧
  (∀ (s : State) r i, s.frame = none → s.seq ≠ .idle → s.req = some r → decodeRequest r = .ok i →
    step s = exec i s) ∧
  (∀ s : State, s.frame = none → s.seq = .idle → s.requests = [] → step s = .next s)

/-- After reset nothing has happened, the sequencer is IDLE and not initialised, the bus is not configured, REQ and RESP
hold no value, and FLASH_SIZE is legal (R251, R8). -/
def Obligations.ResetLeavesNothingDone : Prop :=
  State.reset.inited = false ∧ State.reset.seq = .idle ∧ State.reset.req = none ∧ State.reset.resp = none ∧
  State.reset.trace = [] ∧ State.reset.responses = [] ∧ State.reset.frame = none ∧
  State.reset.transportReady = false ∧ 1 ≤ State.reset.flashSize ∧ State.reset.flashSize ≤ 16777216

/-- Every operation but INIT is refused while `inited = 0` (R254). -/
def Obligations.OnlyInitRunsBeforeInit : Prop :=
  ∀ (i : Instr) (s : State), i.isOperation = true → i ≠ .init → s.seq = .idle → s.inited = false →
    exec i s = .refused .notInitialised

/-- An operation is refused while another one runs (R241, R73). -/
def Obligations.RequestDuringAnotherIsRefused : Prop :=
  ∀ (s : State) (v : Byte) (o n : Operand) (d : Option (List Byte)),
    s.seq ≠ .idle →
    ((∀ k, s.seq ≠ .init k) → exec .init s = .refused .requestWhileBusy) ∧
    ((∀ k, s.seq ≠ .sleep k) → exec .sleep s = .refused .requestWhileBusy) ∧
    ((∀ k, s.seq ≠ .wait k) → exec .wait s = .refused .requestWhileBusy) ∧
    ((∀ k, s.seq ≠ .getStatus k) → exec .getStatus s = .refused .requestWhileBusy) ∧
    ((∀ k, s.seq ≠ .setStatus k) → exec (.setStatus v) s = .refused .requestWhileBusy) ∧
    ((∀ k, s.seq ≠ .erase k) → exec (.erase o n) s = .refused .requestWhileBusy) ∧
    ((∀ k, s.seq ≠ .write k) → exec (.write d o n) s = .refused .requestWhileBusy) ∧
    ((∀ k, s.seq ≠ .read k) → exec (.read o n) s = .refused .requestWhileBusy) ∧
    ((∀ k, s.seq ≠ .getJedecId k) → exec .getJedecId s = .refused .requestWhileBusy) ∧
    ((∀ k, s.seq ≠ .getUniqueId k) → exec .getUniqueId s = .refused .requestWhileBusy)

/-! ### The wire commands -/

/-- Each of the eight commands that only move bytes completes on a configured bus: exactly its frame is sent, one byte is
received per byte, and nothing of the sequencer changes but the received bytes (R142, R143, R160, R161, R186, R196, R206,
R209, R85). -/
def Obligations.PlainCommandsSendTheirFrame : Prop :=
  ∀ (s : State) (v : Byte) (a : FlashAddr) (p xs : List Byte), s.transportReady = true →
    (∃ t, exec .writeEnable s = .next t ∧ SentFrame [0x06#8] s t ∧
      SameOperation s t ∧ t.poweredDown = s.poweredDown ∧ t.st = s.st) ∧
    (∃ t, exec (.writeStatusRegister v) s = .next t ∧ SentFrame [0x01#8, v] s t ∧
      SameOperation s t ∧ t.poweredDown = s.poweredDown ∧ t.st = s.st) ∧
    (∃ t, exec (.pageProgram a p) s = .next t ∧ SentFrame ([0x02#8] ++ addr3 a ++ p) s t ∧
      SameOperation s t ∧ t.poweredDown = s.poweredDown ∧ t.st = s.st) ∧
    (∃ t, exec (.sectorErase4k a) s = .next t ∧ SentFrame ([0x20#8] ++ addr3 a) s t ∧
      SameOperation s t ∧ t.poweredDown = s.poweredDown ∧ t.st = s.st) ∧
    (∃ t, exec (.blockErase32k a) s = .next t ∧ SentFrame ([0x52#8] ++ addr3 a) s t ∧
      SameOperation s t ∧ t.poweredDown = s.poweredDown ∧ t.st = s.st) ∧
    (∃ t, exec (.readData a xs) s = .next t ∧ SentFrame ([0x03#8] ++ addr3 a ++ xs) s t ∧
      SameOperation s t ∧ t.poweredDown = s.poweredDown ∧ t.st = s.st) ∧
    (xs.length = 3 → ∃ t, exec (.jedecId xs) s = .next t ∧ SentFrame ([0x9F#8] ++ xs) s t ∧
      SameOperation s t ∧ t.poweredDown = s.poweredDown ∧ t.st = s.st) ∧
    (xs.length = 12 → ∃ t, exec (.readUniqueId xs) s = .next t ∧ SentFrame ([0x4B#8] ++ xs) s t ∧
      SameOperation s t ∧ t.poweredDown = s.poweredDown ∧ t.st = s.st)

/-- READ STATUS REGISTER sends `[0x05, DUMMY]`; the byte received at position 1 is the status byte, and nothing else of the
sequencer changes (R141, R146). -/
def Obligations.StatusReadKeepsTheSecondByte : Prop :=
  ∀ (s : State) (x : Byte), s.transportReady = true →
    ∃ t b0 b1, exec (.readStatusRegister x) s = .next t ∧ SentFrame [0x05#8, x] s t ∧ t.miso = [b0, b1] ∧ t.st = b1 ∧
      SameOperation s t ∧ t.poweredDown = s.poweredDown

/-- RELEASE POWER-DOWN sends `[0xAB]` and leaves `poweredDown = 0`; POWER DOWN sends `[0xB9]` and leaves `poweredDown = 1`
(R122, R125, R21; that the flag moves in the step of the frame is the model's choice, log 9). -/
def Obligations.PowerCommandsMoveTheMirror : Prop :=
  ∀ s : State, s.transportReady = true →
    (∃ t, exec .releasePowerDown s = .next t ∧ SentFrame [0xAB#8] s t ∧ t.poweredDown = false ∧
      SameOperation s t ∧ t.st = s.st) ∧
    (∃ t, exec .powerDown s = .next t ∧ SentFrame [0xB9#8] s t ∧ t.poweredDown = true ∧
      SameOperation s t ∧ t.st = s.st)

/-- No frame can be sent on a bus that is not configured (R121; that the model stops with a fault there is log 21). -/
def Obligations.FramesNeedAConfiguredBus : Prop :=
  ∀ (i : Instr) (s : State), i.isOperation = false → s.transportReady = false →
    exec i s = .fault .busNotConfigured

/-! ### The reference chip (general knowledge of the spec, log 10) -/

/-- A PAGE PROGRAM that the reference chip obeys ANDs its payload into the addressed bytes of the array and leaves every
other byte (20_memory.md section 9, G3; log 10, log 14). -/
def Obligations.ProgramChangesOnlyItsBytes : Prop :=
  ∀ (s : State) (a : FlashAddr) (p : List Byte), s.transportReady = true → (Instr.pageProgram a p).wellFormed = true →
    s.chip.array.wf → s.chip.listens = true → s.chip.wel = true →
    ∃ t, exec (.pageProgram a p) s = .next t ∧
      ∀ b : Nat, Memory.read t.chip.array b =
        if a.toNat ≤ b ∧ b < a.toNat + p.length ∧ b < s.flashSize
        then Memory.read s.chip.array b &&& p.getD (b - a.toNat) 0
        else Memory.read s.chip.array b

/-- An erase command that the reference chip obeys sets exactly the bytes of its unit to 0xFF (20_memory.md section 9, G3;
log 10). -/
def Obligations.EraseClearsExactlyItsUnit : Prop :=
  ∀ (s : State) (a : FlashAddr), s.transportReady = true → s.chip.listens = true → s.chip.wel = true →
    (a.toNat % 4096 = 0 → ∃ t, exec (.sectorErase4k a) s = .next t ∧
      ∀ b : Nat, Memory.read t.chip.array b =
        if a.toNat ≤ b ∧ b < a.toNat + 4096 then 0xFF#8 else Memory.read s.chip.array b) ∧
    (a.toNat % 32768 = 0 → ∃ t, exec (.blockErase32k a) s = .next t ∧
      ∀ b : Nat, Memory.read t.chip.array b =
        if a.toNat ≤ b ∧ b < a.toNat + 32768 then 0xFF#8 else Memory.read s.chip.array b)

/-- The array changes in no other step: not by a host operation, not by another command, not while the latch is clear,
the chip busy or powered down (20_memory.md section 9, G3; R53, R64; log 10). -/
def Obligations.NothingElseChangesTheArray : Prop :=
  ∀ (i : Instr) (s t : State), exec i s = .next t →
    ((∀ a p, i ≠ .pageProgram a p) ∧ (∀ a, i ≠ .sectorErase4k a) ∧ (∀ a, i ≠ .blockErase32k a)) ∨
      s.chip.wel = false ∨ s.chip.listens = false →
    t.chip.array = s.chip.array

/-- With the reference chip answering, READ DATA receives the bytes of the array (R196, R55; log 10). -/
def Obligations.ReadDataReceivesTheArray : Prop :=
  ∀ (s : State) (a : FlashAddr) (xs : List Byte), s.transportReady = true → s.answers = .chip → s.chip.listens = true →
    ∃ t, exec (.readData a xs) s = .next t ∧
      t.miso.drop 4 = (List.range xs.length).map fun j => Memory.read s.chip.array ((a.toNat + j) % s.flashSize)

/-- With the reference chip answering, what is programmed into an erased region reads back once the program cycle is over:
after at least as many status polls as the frames the cycle lasts, whatever number that is (R258; the chip is log 10, a cycle
counted in frames is log 11: both the model's, not a rule's). -/
def Obligations.ProgramThenReadReturnsThePayload : Prop :=
  ∀ (s : State) (a : FlashAddr) (p xs polls : List Byte),
    s.transportReady = true → s.answers = .chip → s.chip.array.wf → s.chip.listens = true → s.chip.wel = true →
    s.cycles.peek Config.freeCycle 0 ≤ polls.length → (Instr.pageProgram a p).wellFormed = true →
    a.toNat + p.length ≤ s.flashSize → xs.length = p.length →
    (∀ b, a.toNat ≤ b → b < a.toNat + p.length → Memory.read s.chip.array b = 0xFF#8) →
    ∃ u, execAll (.pageProgram a p :: polls.map .readStatusRegister ++ [.readData a xs]) s = .next u ∧ u.miso.drop 4 = p

/-- Every step keeps the canonical form of the array. -/
def Obligations.StepKeepsTheArrayCanonical : Prop :=
  ∀ s t : State, s.chip.array.wf → step s = .next t → t.chip.array.wf

/-- "The sequencer's own rules never depend on" the chip's latch, power state, array or status bits (R33): while an
unconstrained oracle answers (R237), a step of two states that differ only in the chip has the same outcome, and the next
states differ only in the chip. -/
def Obligations.SequencerIgnoresTheChip : Prop :=
  ∀ (s : State) (c : Chip) (q : Source Nat), s.answers = .oracle →
    (∀ t, step s = .next t → ∃ c' q', step { s with chip := c, cycles := q } = .next { t with chip := c', cycles := q' }) ∧
    (∀ f, step s = .fault f → step { s with chip := c, cycles := q } = .fault f) ∧
    (∀ r, step s = .refused r → step { s with chip := c, cycles := q } = .refused r)

/-! ### Power states -/

/-- INIT, in any IDLE state: the bus is configured, one `[0xAB]` frame follows whatever `poweredDown` held, and the
machine is Active, initialised and IDLE with Success (R121, R252). That REQ and the working registers keep their values
afterwards is the model's choice (logs 27 and 4, DESIGN CHOICE). -/
def Obligations.InitConfiguresAndWakes : Prop :=
  ∀ s : State, Presented .init s →
    ∃ u m, Completes .init s u ∧ Answered s u ⟨.success, none, none⟩ ∧ u.poweredDown = false ∧ u.inited = true ∧
      u.transportReady = true ∧ m.length = 1 ∧ u.trace = s.trace ++ [.busInit, .frame [0xAB#8] m] ∧
      SameWork s u ∧ u.fill = s.fill ∧ u.st = s.st

/-- SLEEP: from Active one `[0xB9]` frame and PoweredDown; from PoweredDown no event at all; always Success (R126). That
REQ and the working registers keep their values afterwards is the model's choice (logs 27 and 4, DESIGN CHOICE). -/
def Obligations.SleepIsIdempotent : Prop :=
  ∀ s : State, Ready .sleep s →
    (s.poweredDown = false → ∃ u m, Completes .sleep s u ∧ Answered s u ⟨.success, none, none⟩ ∧ u.poweredDown = true ∧
      m.length = 1 ∧ u.trace = s.trace ++ [.frame [0xB9#8] m] ∧ SameWork s u ∧ u.inited = s.inited ∧
      u.transportReady = s.transportReady ∧ u.fill = s.fill ∧ u.st = s.st) ∧
    (s.poweredDown = true → exec .sleep s = .next { s with
      resp := some ⟨.success, none, none⟩, responses := s.responses ++ [⟨.success, none, none⟩] })

/-- The operations without input checks, presented to an initialised machine, are accepted: the operation stands at its
first point and nothing else has happened (R27). That RESP is emptied then is the model's choice (log 19, DESIGN CHOICE), and
so are the names of the points (log 9). -/
def Obligations.AcceptedOperationsStart : Prop :=
  ∀ (s : State) (v : Byte), s.seq = .idle → s.inited = true →
    exec .wait s = .next { s with resp := none, seq := .wait .start } ∧
    exec .getStatus s = .next { s with resp := none, seq := .getStatus .poll } ∧
    exec (.setStatus v) s = .next { s with resp := none, seq := .setStatus .wake } ∧
    exec .getJedecId s = .next { s with resp := none, seq := .getJedecId .wake } ∧
    exec .getUniqueId s = .next { s with resp := none, seq := .getUniqueId .wake }

/-- `Wake()` at the wake point of each operation (R123, R124): with `poweredDown = 1` the release frame goes out and the
flag is cleared with no clock read; with `poweredDown = 0` the operation goes on and no release frame is composed. That the
frame is composed in one step, while the operation stays at its point, and sent in the next is the model's choice (log 9,
DESIGN CHOICE). -/
def Obligations.WakeReleasesOnceOrDoesNothing : Prop :=
  ∀ (i : Instr) (s : State), s.frame = none →
    (s.seq = .wait .start ∧ i = .wait ∨ s.seq = .getStatus .poll ∧ i = .getStatus ∨
      s.seq = .setStatus .wake ∧ (∃ v, i = .setStatus v) ∨ s.seq = .erase .wake ∧ (∃ o n, i = .erase o n) ∨
      s.seq = .write .wake ∧ (∃ d o n, i = .write d o n) ∨ s.seq = .read .wake ∧ (∃ o n, i = .read o n) ∨
      s.seq = .getJedecId .wake ∧ i = .getJedecId ∨ s.seq = .getUniqueId .wake ∧ i = .getUniqueId) →
    (s.poweredDown = true → exec i s = .next { s with frame := some [0xAB#8] } ∧
      (s.transportReady = true → ∃ u, step { s with frame := some [0xAB#8] } = .next u ∧ SentFrame [0xAB#8] s u ∧
        SameOperation s u ∧ u.poweredDown = false ∧ u.st = s.st)) ∧
    (s.poweredDown = false → ∃ t, exec i s = .next t ∧ t.seq ≠ s.seq ∧ t.frame ≠ some [0xAB#8])

/-- The invariant of R22: `poweredDown = 1` if and only if the last power frame sent is `[0xB9]`; every step keeps it. -/
def Obligations.PowerMirrorIsKept : Prop :=
  (∀ s t : State, PowerMirror s → step s = .next t → PowerMirror t) ∧
  ∀ s : State, PowerMirror s → s.inited = true → (s.poweredDown = true ↔ lastPower s.trace = some true)

/-- `poweredDown` changes only with a `[0xAB]` or a `[0xB9]` frame (R21, R120). That it changes in the very step that sends
the frame is the model's choice (log 9, DESIGN CHOICE). -/
def Obligations.PowerFlagMovesOnlyWithItsFrames : Prop :=
  ∀ s t : State, step s = .next t → t.poweredDown ≠ s.poweredDown →
    (s.frame = some [0xAB#8] ∧ t.poweredDown = false) ∨ (s.frame = some [0xB9#8] ∧ t.poweredDown = true)

/-! ### Status and the busy-wait -/

/-- GET_STATUS: `Wake()`, one `[0x05, DUMMY]` frame, Success with the raw byte zero-extended; no clock read, no wait
(R146, R147). That REQ and the working registers keep their values afterwards is the model's choice (logs 27 and 4,
DESIGN CHOICE). -/
def Obligations.GetStatusReturnsTheRawByte : Prop :=
  ∀ s : State, Ready .getStatus s →
    ∃ u w x b0 b1, Completes .getStatus s u ∧ WakeEvents s w ∧ u.trace = s.trace ++ w ++ [.frame [0x05#8, x] [b0, b1]] ∧
      Answered s u ⟨.success, some (b1.setWidth 64), none⟩ ∧ u.st = b1 ∧ u.poweredDown = false ∧ SameWork s u ∧
      u.inited = s.inited ∧ u.transportReady = s.transportReady

/-- Every point of `Wait()`, wherever it is called (R148): the wake; the first clock read into `t0`; the poll; Success
at once on a clear busy bit; else the clock, and Timeout exactly when strictly more than 800 ms have passed since `t0`,
else the next poll at once. A Timeout ends the operation with nothing more sent (R152, R221, R225). The points, and that
a frame is composed in one step with no event and sent in the next, are the model's choice (log 9, DESIGN CHOICE). That
REQ keeps the request after an answer is the model's choice (log 27, DESIGN CHOICE). -/
def Obligations.WaitDoesWhatItsPointsSay : Prop :=
  ∀ (p : WaitPlace) (i : Instr) (s : State), p.belongs i = true → s.frame = none →
    (s.seq = p.at_ .start ∨ s.seq = p.at_ .poll → s.poweredDown = true →
      exec i s = .next { s with frame := some [0xAB#8] }) ∧
    (s.seq = p.at_ .start → s.poweredDown = false →
      exec i s = .next { s with
        t0 := tickAt s 0, clock := tickAt s 0, ticks := s.ticks.skip 1,
        trace := s.trace ++ [.now (tickAt s 0)], seq := p.at_ .poll }) ∧
    (s.seq = p.at_ .poll → s.poweredDown = false →
      exec i s = .next { s with
        frame := some [0x05#8, s.fill.peek Config.freeFill 0], fill := s.fill.skip 1, seq := p.at_ .test }) ∧
    (s.seq = p.at_ .test → s.st.getLsbD 0 = false → exec i s = .next (p.succeeded s)) ∧
    (s.seq = p.at_ .test → s.st.getLsbD 0 = true → exec i s = .next { s with seq := p.at_ .time }) ∧
    (s.seq = p.at_ .time → tickAt s 0 - s.t0 ≤ 800 →
      exec i s = .next { s with
        clock := tickAt s 0, ticks := s.ticks.skip 1, trace := s.trace ++ [.now (tickAt s 0)], seq := p.at_ .poll }) ∧
    (s.seq = p.at_ .time → tickAt s 0 - s.t0 > 800 →
      exec i s = .next { s with
        clock := tickAt s 0, ticks := s.ticks.skip 1, trace := s.trace ++ [.now (tickAt s 0)], seq := .idle,
        resp := some ⟨.timeout, none, none⟩, responses := s.responses ++ [⟨.timeout, none, none⟩] })

/-- WAIT, whatever bytes and ticks come: if the first `p` polls find the chip busy within 800 ms and the next finds it
idle, the trace is exactly that of R150 and the answer is Success. That REQ and the working registers keep their values
afterwards is the model's choice (logs 27 and 4, DESIGN CHOICE). -/
def Obligations.WaitSucceedsOnTheFirstIdlePoll : Prop :=
  ∀ (s : State) (p : Nat), Ready .wait s → s.answers = .oracle →
    (∀ k, k < p → pollBusy s k = true ∧ tickAt s (k + 1) - tickAt s 0 ≤ 800) → pollBusy s p = false →
    ∃ u w, Completes .wait s u ∧ Answered s u ⟨.success, none, none⟩ ∧ WakeEvents s w ∧
      u.trace = s.trace ++ w ++ waitPrefix s p ++ [pollEvent s p] ∧ u.poweredDown = false ∧ u.clock = tickAt s p ∧
      u.flashSize = s.flashSize ∧ u.inited = s.inited ∧ u.req = s.req ∧ u.requests = s.requests ∧
      u.cur = s.cur ∧ u.rem = s.rem ∧ u.chunk = s.chunk ∧ u.idx = s.idx

/-- WAIT on a chip that every poll finds busy: at the first clock read more than 800 ms after the first, the trace is
exactly that of R150 and the answer is Timeout, "with no further retry". That REQ and the working registers keep their
values afterwards is the model's choice (logs 27 and 4, DESIGN CHOICE). -/
def Obligations.WaitTimesOutAfterEightHundred : Prop :=
  ∀ (s : State) (p : Nat), Ready .wait s → s.answers = .oracle →
    (∀ k, k < p → pollBusy s k = true ∧ tickAt s (k + 1) - tickAt s 0 ≤ 800) →
    pollBusy s p = true → tickAt s (p + 1) - tickAt s 0 > 800 →
    ∃ u w, Completes .wait s u ∧ Answered s u ⟨.timeout, none, none⟩ ∧ WakeEvents s w ∧
      u.trace = s.trace ++ w ++ waitPrefix s (p + 1) ∧ u.poweredDown = false ∧ u.clock = tickAt s (p + 1) ∧
      u.flashSize = s.flashSize ∧ u.inited = s.inited ∧ u.req = s.req ∧ u.requests = s.requests ∧
      u.cur = s.cur ∧ u.rem = s.rem ∧ u.chunk = s.chunk ∧ u.idx = s.idx

/-- WAIT ends whenever some poll finds the chip idle or the clock eventually passes `t0 + 800`, the fairness assumption of
R231. -/
def Obligations.WaitEndsUnderAFairClock : Prop :=
  ∀ s : State, Ready .wait s → s.answers = .oracle →
    (∃ k, pollBusy s k = false ∨ tickAt s (k + 1) - tickAt s 0 > 800) →
    ∃ u r, Completes .wait s u ∧ Answered s u ⟨r, none, none⟩ ∧ (r = .success ∨ r = .timeout)

/-- No poll count ends WAIT (R150, R231): while `n` polls find the chip busy and the clock stays within 800 ms, exactly
the `n` polls are made and the machine stands before the next, for every `n`; with a stuck clock and a busy chip that is
a hang. The exact number of steps is the model's choice (log 9, DESIGN CHOICE), and so is that RESP is empty while WAIT
runs (log 19, DESIGN CHOICE). -/
def Obligations.WaitPollsOnWithoutBound : Prop :=
  ∀ (s t : State) (n : Nat), Ready .wait s → s.answers = .oracle →
    (∀ k, k < n → pollBusy s k = true ∧ tickAt s (k + 1) - tickAt s 0 ≤ 800) → exec .wait s = .next t →
    ∃ u w, steps (2 * wakeBytes s + 1 + 4 * n) t = .next u ∧ WakeEvents s w ∧ u.seq = .wait .poll ∧ u.frame = none ∧
      u.trace = s.trace ++ w ++ waitPrefix s n ∧ u.responses = s.responses ∧ u.resp = none

/-- SET_STATUS: `Wake()`, then `[0x06]`, then `[0x01, value]`, and the machine stands at the start of its `Wait()`
(R151); the rest is `WaitDoesWhatItsPointsSay`. The point it stands at is the model's choice (log 9, DESIGN CHOICE), and
so is that RESP is empty while SET_STATUS runs (log 19, DESIGN CHOICE). That `cur`, `rem`, `chunk`, `idx` and `t0` keep
their values is log 4 (DESIGN CHOICE). -/
def Obligations.SetStatusSendsLatchThenValue : Prop :=
  ∀ (s : State) (v : Byte), Ready (.setStatus v) s →
    ∃ u w m1 m2, Completes (.setStatus v) s u ∧ WakeEvents s w ∧ m1.length = 1 ∧ m2.length = 2 ∧
      u.trace = s.trace ++ w ++ [.frame [0x06#8] m1, .frame [0x01#8, v] m2] ∧
      u.seq = .setStatus (.waiting .start) ∧ u.frame = none ∧ u.resp = none ∧ u.responses = s.responses ∧
      u.poweredDown = false ∧ SameWork s u

/-- SET_STATUS with a chip that its one poll finds idle, whatever the other received bytes are: the latch, the value,
one clock read, one poll, and Success (R151). That REQ and the working registers keep their values afterwards is the
model's choice (logs 27 and 4, DESIGN CHOICE). -/
def Obligations.SetStatusEndsWithItsWait : Prop :=
  ∀ (s : State) (v : Byte), Ready (.setStatus v) s → s.answers = .oracle →
    busyBit (s.rx.peek Config.freeRx (wakeBytes s + 4)) = false →
    ∃ (u : State) (w : List Event) (m1 m2 r : List Byte) (x : Byte),
      Completes (.setStatus v) s u ∧ WakeEvents s w ∧ m1.length = 1 ∧ m2.length = 2 ∧ r.length = 2 ∧
      u.trace = s.trace ++ w ++
        [.frame [0x06#8] m1, .frame [0x01#8, v] m2, .now (tickAt s 0), .frame [0x05#8, x] r] ∧
      Answered s u ⟨.success, none, none⟩ ∧ u.poweredDown = false ∧ u.clock = tickAt s 0 ∧
      u.flashSize = s.flashSize ∧ u.inited = s.inited ∧ u.req = s.req ∧ u.requests = s.requests ∧
      u.cur = s.cur ∧ u.rem = s.rem ∧ u.chunk = s.chunk ∧ u.idx = s.idx

/-! ### Input checks -/

/-- The input checks of ERASE, WRITE and READ (R162, R163, R182, R197). Rejected operands are answered InputValue in one
step that does nothing else: no event, no wake, no other register. All others are accepted: the operation stands before
its `Wake()`. The name of that point is the model's choice (log 9, DESIGN CHOICE), and so is that RESP is emptied on
acceptance (log 19, DESIGN CHOICE). That REQ keeps the request after an answer is the model's choice (log 27, DESIGN
CHOICE). -/
def Obligations.InputChecksDecideBeforeAnyTraffic : Prop :=
  ∀ (s : State) (d : Option (List Byte)) (o n : Operand), s.seq = .idle → s.inited = true →
    (o.toNat + n.toNat > s.flashSize ∨ o.toNat % 4096 ≠ 0 ∨ n.toNat % 4096 ≠ 0 →
      exec (.erase o n) s = .next { s with
        resp := some ⟨.inputValue, none, none⟩, responses := s.responses ++ [⟨.inputValue, none, none⟩] }) ∧
    (o.toNat + n.toNat ≤ s.flashSize → o.toNat % 4096 = 0 → n.toNat % 4096 = 0 →
      exec (.erase o n) s = .next { s with resp := none, seq := .erase .wake }) ∧
    (d = none ∨ o.toNat + n.toNat > s.flashSize →
      exec (.write d o n) s = .next { s with
        resp := some ⟨.inputValue, none, none⟩, responses := s.responses ++ [⟨.inputValue, none, none⟩] }) ∧
    (d ≠ none → o.toNat + n.toNat ≤ s.flashSize →
      exec (.write d o n) s = .next { s with resp := none, seq := .write .wake }) ∧
    (o.toNat + n.toNat > s.flashSize →
      exec (.read o n) s = .next { s with
        resp := some ⟨.inputValue, none, none⟩, responses := s.responses ++ [⟨.inputValue, none, none⟩] }) ∧
    (o.toNat + n.toNat ≤ s.flashSize →
      exec (.read o n) s = .next { s with resp := none, seq := .read .wake })

/-! ### Erase -/

/-- The points of ERASE's two loops and of `EraseUnit` (R164, R165, R166): blocks while `cur mod 32768 = 0` and `rem >=
32768`, then sectors while `rem > 0` with no way back, each unit a re-check, `[0x06]` and its erase frame. The points,
and that a frame is composed in one step with no event and sent in the next, are the model's choice (log 9, DESIGN
CHOICE). That REQ keeps the request after an answer is the model's choice (log 27, DESIGN CHOICE). -/
def Obligations.EraseDoesWhatItsPointsSay : Prop :=
  ∀ (s : State) (o n : Operand), s.frame = none →
    (s.seq = .erase .wake → s.poweredDown = false →
      exec (.erase o n) s = .next { s with cur := o.toNat, rem := n.toNat, seq := .erase .blocks }) ∧
    (s.seq = .erase .blocks → s.cur % 32768 = 0 → 32768 ≤ s.rem →
      exec (.erase o n) s = .next { s with seq := .erase (.wen .block) }) ∧
    (s.seq = .erase .blocks → ¬(s.cur % 32768 = 0 ∧ 32768 ≤ s.rem) →
      exec (.erase o n) s = .next { s with seq := .erase .sectors }) ∧
    (s.seq = .erase .sectors → 0 < s.rem → exec (.erase o n) s = .next { s with seq := .erase (.wen .sector) }) ∧
    (s.seq = .erase .sectors → s.rem = 0 →
      exec (.erase o n) s = .next { s with
        seq := .idle, resp := some ⟨.success, none, none⟩, responses := s.responses ++ [⟨.success, none, none⟩] }) ∧
    (∀ u : EraseSize, s.seq = .erase (.wen u) → s.cur % u.bytes = 0 →
      exec (.erase o n) s = .next { s with frame := some [0x06#8], seq := .erase (.cmd u) }) ∧
    (∀ u : EraseSize, s.seq = .erase (.wen u) → s.cur % u.bytes ≠ 0 →
      exec (.erase o n) s = .next { s with
        seq := .idle, resp := some ⟨.inputValue, none, none⟩, responses := s.responses ++ [⟨.inputValue, none, none⟩] }) ∧
    (s.seq = .erase (.cmd .block) → exec (.erase o n) s = .next { s with
      frame := some (0x52#8 :: addr3 (wireAddr s.cur)), seq := .erase (.waiting .block .start) }) ∧
    (s.seq = .erase (.cmd .sector) → exec (.erase o n) s = .next { s with
      frame := some (0x20#8 :: addr3 (wireAddr s.cur)), seq := .erase (.waiting .sector .start) })

/-- Whatever the chip and the clock answer, an accepted ERASE that ends has sent the first `k` of the block and sector
erases of R168, in increasing address order, each directly preceded by `[0x06]`, after at most one `[0xAB]`: all of them and
Success, or it timed out after the `k`-th (R165, R166, R167, R168). -/
def Obligations.EraseSendsItsUnitsInOrder : Prop :=
  ∀ (s u : State) (o n : Operand) (r : Response), Ready (.erase o n) s →
    o.toNat + n.toNat ≤ s.flashSize → o.toNat % 4096 = 0 → n.toNat % 4096 = 0 →
    Completes (.erase o n) s u → Answered s u r →
    ∃ tail k, u.trace = s.trace ++ tail ∧
      commandsSent tail = (if s.poweredDown then [[0xAB#8]] else []) ++
        ((eraseLayout o.toNat n.toNat).take k).flatMap (fun f => [[0x06#8], f]) ∧
      (r = ⟨.success, none, none⟩ ∧ k = (eraseLayout o.toNat n.toNat).length ∨
        r = ⟨.timeout, none, none⟩ ∧ 1 ≤ k ∧ k ≤ (eraseLayout o.toNat n.toNat).length)

/-- An accepted ERASE whose one poll after each unit finds the chip idle, whatever the other received bytes are, ends with
Success, after one clock read and one poll for each unit (R167, R168). -/
def Obligations.EraseOfAnIdleChipSucceeds : Prop :=
  ∀ (s : State) (o n : Operand), Ready (.erase o n) s → s.answers = .oracle →
    (∀ j, j < (eraseLayout o.toNat n.toNat).length →
      busyBit (s.rx.peek Config.freeRx (wakeBytes s + 7 * j + 6)) = false) →
    o.toNat + n.toNat ≤ s.flashSize → o.toNat % 4096 = 0 → n.toNat % 4096 = 0 →
    ∃ u tail, Completes (.erase o n) s u ∧ Answered s u ⟨.success, none, none⟩ ∧ u.poweredDown = false ∧
      u.trace = s.trace ++ tail ∧ pollCount tail = (eraseLayout o.toNat n.toNat).length ∧
      (ticksRead tail).length = (eraseLayout o.toNat n.toNat).length

/-- The erase units of an accepted ERASE tile the request: `32768 * nb + 4096 * ns = length` (R168). -/
def Obligations.EraseUnitsSumToTheLength : Prop :=
  ∀ o n : Nat, o % 4096 = 0 → n % 4096 = 0 →
    32768 * ((eraseLayout o n).filter fun f => decide (f.head? = some 0x52#8)).length +
      4096 * ((eraseLayout o n).filter fun f => decide (f.head? = some 0x20#8)).length = n

/-! ### Write -/

/-- The points of WRITE (R183, R184): the chunk of `min(256 - (cur & 0xFF), rem)` bytes, the wait before it, `[0x06]`,
the program frame with its slice of the data, the advance, and the last wait. The points, and that a frame is composed
in one step with no event and sent in the next, are the model's choice (log 9, DESIGN CHOICE). -/
def Obligations.WriteDoesWhatItsPointsSay : Prop :=
  ∀ (s : State) (d : List Byte) (o n : Operand), s.frame = none →
    (s.seq = .write .wake → s.poweredDown = false →
      exec (.write (some d) o n) s = .next { s with cur := o.toNat, rem := n.toNat, idx := 0, seq := .write .chunks }) ∧
    (s.seq = .write .chunks → 0 < s.rem →
      exec (.write (some d) o n) s = .next { s with
        chunk := min (256 - s.cur % 256) s.rem, seq := .write (.waitChunk .start) }) ∧
    (s.seq = .write .chunks → s.rem = 0 →
      exec (.write (some d) o n) s = .next { s with seq := .write (.waitLast .start) }) ∧
    (s.seq = .write .wen →
      exec (.write (some d) o n) s = .next { s with frame := some [0x06#8], seq := .write .cmd }) ∧
    (s.seq = .write .cmd →
      exec (.write (some d) o n) s = .next { s with
        frame := some (0x02#8 :: addr3 (wireAddr s.cur) ++ (d.drop s.idx).take s.chunk), seq := .write .advance }) ∧
    (s.seq = .write .advance →
      exec (.write (some d) o n) s = .next { s with
        cur := s.cur + s.chunk, idx := s.idx + s.chunk, rem := s.rem - s.chunk, seq := .write .chunks })

/-- Whatever the chip and the clock answer, an accepted WRITE that ends has sent the first `k` of the page programs of
R185, in increasing address order, each directly preceded by `[0x06]`, after at most one `[0xAB]`: all of them and Success,
or it timed out (R183, R184, R185). -/
def Obligations.WriteSendsItsChunksInOrder : Prop :=
  ∀ (s u : State) (d : List Byte) (o n : Operand) (r : Response), Ready (.write (some d) o n) s →
    d.length = n.toNat → o.toNat + n.toNat ≤ s.flashSize →
    Completes (.write (some d) o n) s u → Answered s u r →
    ∃ tail k, u.trace = s.trace ++ tail ∧
      commandsSent tail = (if s.poweredDown then [[0xAB#8]] else []) ++
        ((writeLayout d o.toNat n.toNat).take k).flatMap (fun f => [[0x06#8], f]) ∧
      (r = ⟨.success, none, none⟩ ∧ k = pageCount o.toNat n.toNat ∨
        r = ⟨.timeout, none, none⟩ ∧ k ≤ pageCount o.toNat n.toNat)

/-- An accepted WRITE whose one poll before each chunk and after the last finds the chip idle, whatever the other received
bytes are, ends with Success, after one clock read and one poll for each of these waits (R184, R185). -/
def Obligations.WriteToAnIdleChipSucceeds : Prop :=
  ∀ (s : State) (d : List Byte) (o n : Operand), Ready (.write (some d) o n) s → s.answers = .oracle →
    (∀ j, j ≤ pageCount o.toNat n.toNat →
      busyBit (s.rx.peek Config.freeRx (wakeBytes s + 7 * j + bytesBefore o.toNat n.toNat j + 1)) = false) →
    d.length = n.toNat → o.toNat + n.toNat ≤ s.flashSize →
    ∃ u tail, Completes (.write (some d) o n) s u ∧ Answered s u ⟨.success, none, none⟩ ∧ u.poweredDown = false ∧
      u.trace = s.trace ++ tail ∧ pollCount tail = pageCount o.toNat n.toNat + 1 ∧
      (ticksRead tail).length = pageCount o.toNat n.toNat + 1

/-- The chunks of R185 stay inside one page, follow each other without gap or overlap, and cover the request. -/
def Obligations.ChunksTileTheRequest : Prop :=
  ∀ o n : Nat, 0 < n →
    chunkStart o 0 = o ∧ chunkEnd o n (pageCount o n - 1) = o + n ∧
    (∀ i, i + 1 < pageCount o n → chunkEnd o n i = chunkStart o (i + 1)) ∧
    (∀ i, i < pageCount o n → chunkStart o i < chunkEnd o n i ∧
      chunkStart o i % 256 + (chunkEnd o n i - chunkStart o i) ≤ 256)

/-! ### Read and the identity queries -/

/-- An accepted READ: `Wake()`, one frame `[0x03] ++ Addr3(offset) ++ DUMMY^length`, the payload is what was received
from position 4 on, Success; no clock read (R199, R200). That REQ and the working registers keep their values afterwards
is the model's choice (logs 27 and 4, DESIGN CHOICE). -/
def Obligations.ReadReturnsThePayload : Prop :=
  ∀ (s : State) (o n : Operand), Ready (.read o n) s → o.toNat + n.toNat ≤ s.flashSize →
    ∃ u w xs miso, Completes (.read o n) s u ∧ WakeEvents s w ∧ xs.length = n.toNat ∧ miso.length = 4 + n.toNat ∧
      u.trace = s.trace ++ w ++ [.frame (0x03#8 :: addr3 (wireAddr o.toNat) ++ xs) miso] ∧
      Answered s u ⟨.success, none, some (miso.drop 4)⟩ ∧ u.poweredDown = false ∧ SameWork s u ∧
      u.inited = s.inited ∧ u.transportReady = s.transportReady ∧ u.st = s.st

/-- GET_JEDEC_ID: `Wake()`, one 4-byte frame, `miso[1] << 16 | miso[2] << 8 | miso[3]` with bits 63 to 24 zero, Success
(R207); the fields of R208. That REQ and the working registers keep their values afterwards is the model's choice (logs
27 and 4, DESIGN CHOICE). -/
def Obligations.JedecIdPacksThreeBytes : Prop :=
  ∀ s : State, Ready .getJedecId s →
    ∃ (u : State) (w : List Event) (xs : List Byte) (b0 b1 b2 b3 : Byte) (v : RespValue),
      Completes .getJedecId s u ∧ WakeEvents s w ∧ xs.length = 3 ∧
      u.trace = s.trace ++ w ++ [.frame (0x9F#8 :: xs) [b0, b1, b2, b3]] ∧
      Answered s u ⟨.success, some v, none⟩ ∧
      v = (b1.setWidth 64 <<< 16 ||| b2.setWidth 64 <<< 8 ||| b3.setWidth 64 : RespValue) ∧
      jedecManufacturer v = b1 ∧ jedecType v = b2 ∧ jedecCapacity v = b3 ∧
      u.poweredDown = false ∧ SameWork s u ∧ u.inited = s.inited ∧ u.transportReady = s.transportReady ∧ u.st = s.st

/-- GET_UNIQUE_ID: `Wake()`, one 13-byte frame, `miso[5] << 56 | ... | miso[12]`, Success (R210). That REQ and the
working registers keep their values afterwards is the model's choice (logs 27 and 4, DESIGN CHOICE). -/
def Obligations.UniqueIdPacksEightBytes : Prop :=
  ∀ s : State, Ready .getUniqueId s →
    ∃ (u : State) (w : List Event) (xs ign : List Byte) (b5 b6 b7 b8 b9 b10 b11 b12 : Byte),
      Completes .getUniqueId s u ∧ WakeEvents s w ∧ xs.length = 12 ∧ ign.length = 5 ∧
      u.trace = s.trace ++ w ++ [.frame (0x4B#8 :: xs) (ign ++ [b5, b6, b7, b8, b9, b10, b11, b12])] ∧
      Answered s u ⟨.success, some ((b5.setWidth 64 <<< 56) ||| (b6.setWidth 64 <<< 48) ||| (b7.setWidth 64 <<< 40) |||
        (b8.setWidth 64 <<< 32) ||| (b9.setWidth 64 <<< 24) ||| (b10.setWidth 64 <<< 16) ||| (b11.setWidth 64 <<< 8) |||
        b12.setWidth 64), none⟩ ∧
      u.poweredDown = false ∧ SameWork s u ∧ u.inited = s.inited ∧ u.transportReady = s.transportReady ∧ u.st = s.st

/-! ### Results -/

/-- An instruction delivers at most one response, and only with a code the table of R220 gives it; in particular never
AccessDenied (R224), and no wire command delivers any. -/
def Obligations.ResultCodesAreThoseOfTheTable : Prop :=
  ∀ (i : Instr) (s t : State), exec i s = .next t →
    t.responses = s.responses ∨ ∃ r, t.responses = s.responses ++ [r] ∧ mayAnswer i r.err = true ∧ r.err ≠ .accessDenied

/-- Returning a code ends the operation: the step that delivers a response leaves the sequencer IDLE with that response in
RESP, and adds no frame (R225, R227). -/
def Obligations.ResponseEndsTheOperation : Prop :=
  ∀ (i : Instr) (s t : State), exec i s = .next t → t.responses ≠ s.responses →
    ∃ r, t.responses = s.responses ++ [r] ∧ t.resp = some r ∧ t.seq = .idle ∧ t.frame = s.frame ∧
      framesSent t.trace = framesSent s.trace

/-- There is no sticky error: an operation presented to an IDLE machine does the same whatever the last response was
(R30, R227). -/
def Obligations.NoErrorIsSticky : Prop :=
  ∀ (i : Instr) (s : State) (x : Option Response), i.isOperation = true → s.seq = .idle →
    exec i { s with resp := x } = exec i s

/-! ### The whole machine -/

/-- Each step adds at most one event, at the end of the trace (R27, R68). -/
def Obligations.StepAddsAtMostOneEvent : Prop :=
  ∀ s t : State, step s = .next t → t.trace = s.trace ∨ ∃ e, t.trace = s.trace ++ [e]

/-- The clock is read only by WAIT, SET_STATUS, ERASE and WRITE, and `BusInit` is an event of INIT alone, before its wake
frame (R228, R236); a frame event comes only from `exec` of a wire command, never from that of an operation, and its sent
bytes are the command's encoding (R82). That an operation's frame is composed in one step and sent in the next, as a wire
command, and the names of the points INIT stands at before and after `BusInit`, are the model's choice (log 9, DESIGN
CHOICE). -/
def Obligations.EventsComeFromTheirOwnOperations : Prop :=
  ∀ (i : Instr) (s t : State) (e : Event), exec i s = .next t → t.trace = s.trace ++ [e] →
    (∀ k, e = .now k → i = .wait ∨ (∃ v, i = .setStatus v) ∨ (∃ o n, i = .erase o n) ∨ ∃ d o n, i = .write d o n) ∧
    (e = .busInit → i = .init ∧ s.seq = .init .config ∧ t.seq = .init .wake) ∧
    (∀ m r, e = .frame m r → i.isOperation = false ∧ encode i = .frame m)

/-- FLASH_SIZE never changes, `inited` is set by INIT's end alone and never cleared, and the responses and requests only
move forward (R8, R23, R269). The point at which INIT's end sets `inited`, with no composed frame left to send, is the
model's choice (log 9, DESIGN CHOICE). -/
def Obligations.StepKeepsWhatIsFixed : Prop :=
  ∀ s t : State, step s = .next t →
    t.flashSize = s.flashSize ∧ t.answers = s.answers ∧
    (s.inited = true → t.inited = true) ∧ (t.inited ≠ s.inited → s.seq = .init .finish ∧ s.frame = none) ∧
    (t.requests = s.requests ∨ ∃ r, s.requests = r :: t.requests) ∧
    (t.responses = s.responses ∨ ∃ r, t.responses = s.responses ++ [r])

/-- A write-enable frame stands directly before every 0x01, 0x02, 0x20 and 0x52 frame of the trace, and nothing else
directly follows one; every step keeps it (R72, R144). -/
def Obligations.WriteEnableDisciplineIsKept : Prop :=
  ∀ s t : State, LatchDiscipline s → step s = .next t → LatchDiscipline t

/-- Every frame of the trace is a frame of one of the eleven commands, an erase aligned to its unit and a program inside its
page, with one received byte per sent byte; every step from a coherent state keeps it (R80, R83, R87, R160, R161, R186).
Coherence is an invariant of its own: CoherentMachineRunsOrRefusesAsOrdered. -/
def Obligations.TracedFramesStayLegal : Prop :=
  ∀ s t : State, Coherent s → FramesLegal s → step s = .next t → FramesLegal t

/-- The clock answers of the trace never decrease; every step keeps it (R229). -/
def Obligations.ClockAnswersNeverDecrease : Prop :=
  ∀ s t : State, ClockOrdered s → step s = .next t → ClockOrdered t

/-- In a coherent state the machine never gets stuck: it answers a next state, again coherent, or it stops at the host's
next request for one of the reasons the spec orders (R254, R102, R28); it never faults. In particular the re-check of
`EraseUnit` cannot fail (R164) and `cur`, `rem`, `idx` and `chunk` stay in the ranges of R25. -/
def Obligations.CoherentMachineRunsOrRefusesAsOrdered : Prop :=
  ∀ s : State, Coherent s → (∃ t, step s = .next t ∧ Coherent t) ∨ OrderedRefusal s

/-- The state after reset meets every invariant. -/
def Obligations.ResetMeetsTheInvariants : Prop :=
  Coherent State.reset ∧ PowerMirror State.reset ∧ LatchDiscipline State.reset ∧ FramesLegal State.reset ∧
  ClockOrdered State.reset

/-- In a coherent state the working registers are in the ranges of R25 at every point of ERASE and WRITE after the wake:
`cur`, `rem` and (in WRITE) `idx` from 0 to 2^24 with `cur + rem` inside the flash, and from the wait before a chunk to its
advance a chunk of 1 to 256 bytes inside one page. At an erase command `cur` is a multiple of its unit and the unit is inside
the flash. -/
def Obligations.WorkingRegistersStayInRange : Prop :=
  ∀ s : State, Coherent s →
    (∀ k, s.seq = .erase k → k ≠ .wake →
      s.cur ≤ 16777216 ∧ s.rem ≤ 16777216 ∧ s.cur + s.rem ≤ s.flashSize) ∧
    (∀ u, s.seq = .erase (.cmd u) → s.cur + u.bytes ≤ s.flashSize ∧ s.cur < 16777216 ∧ s.cur % u.bytes = 0) ∧
    (∀ k, s.seq = .write k → k ≠ .wake →
      s.cur ≤ 16777216 ∧ s.rem ≤ 16777216 ∧ s.idx ≤ 16777216 ∧ s.cur + s.rem ≤ s.flashSize) ∧
    ((∃ w, s.seq = .write (.waitChunk w)) ∨ s.seq = .write .wen ∨ s.seq = .write .cmd ∨ s.seq = .write .advance →
      1 ≤ s.chunk ∧ s.chunk ≤ 256 ∧ s.chunk ≤ s.rem ∧ s.cur % 256 + s.chunk ≤ 256 ∧ s.cur + s.chunk ≤ s.flashSize ∧
      s.cur < 16777216)

/-! ### The registers of the reference chip -/

/-- How a frame moves the registers of the reference chip (20_memory.md section 9, G3; R33, R76; logs 10, 11, 25, 26), for
each wire command `i` and whoever answers. A busy chip obeys nothing: one frame of its cycle elapses, and the latch clears
with the last. A chip that is powered down obeys `[0xAB]` alone, and is awake for the very next frame. Any other obeys:
`[0x06]` sets the latch, `[0xB9]` powers down, a status write under the latch changes the writable bits, it and the program
and erase commands under the latch start a cycle of a free number of frames, and nothing else moves a register.
What the reading commands receive when the chip answers: the status byte has busy in bit 0, the latch in bit 1 and the stored
bits above; JEDEC ID and READ UNIQUE ID receive the identifiers, most significant byte first. -/
def Obligations.ChipRegistersFollowTheReferenceChip : Prop :=
  ∀ (s : State) (i : Instr), s.transportReady = true → i.isOperation = false → ∃ t, exec i s = .next t ∧
    (s.chip.busyFor ≠ 0 → t.chip = { s.chip with
      busyFor := s.chip.busyFor - 1, wel := s.chip.wel && decide (s.chip.busyFor ≠ 1) }) ∧
    (s.chip.busyFor = 0 → s.chip.asleep = true →
      t.chip = { s.chip with asleep := decide (i ≠ .releasePowerDown) }) ∧
    (s.chip.busyFor = 0 → s.chip.asleep = false →
      (i = .writeEnable → t.chip = { s.chip with wel := true }) ∧
      (i = .powerDown → t.chip = { s.chip with asleep := true }) ∧
      (∀ v, i = .writeStatusRegister v → s.chip.wel = true →
        ∀ k, t.chip.sr.getLsbD k = if s.chip.srMask.getLsbD k then v.getLsbD k else s.chip.sr.getLsbD k) ∧
      ((∀ v, i ≠ .writeStatusRegister v) ∨ s.chip.wel = false → t.chip.sr = s.chip.sr) ∧
      (s.chip.wel = true → ((∃ v, i = .writeStatusRegister v) ∨ (∃ a p, i = .pageProgram a p) ∨
          (∃ a, i = .sectorErase4k a) ∨ ∃ a, i = .blockErase32k a) →
        t.chip.busyFor = s.cycles.peek Config.freeCycle 0 ∧
        t.chip.wel = decide (s.cycles.peek Config.freeCycle 0 ≠ 0) ∧
        t.chip.asleep = false ∧ t.chip.srMask = s.chip.srMask ∧ t.chip.jedec = s.chip.jedec ∧ t.chip.uid = s.chip.uid) ∧
      (s.chip.wel = false → i ≠ .writeEnable → i ≠ .powerDown → t.chip = s.chip) ∧
      ((∃ a xs, i = .readData a xs) ∨ (∃ x, i = .readStatusRegister x) ∨ (∃ xs, i = .jedecId xs) ∨
        (∃ xs, i = .readUniqueId xs) ∨ i = .releasePowerDown → t.chip = s.chip)) ∧
    (s.answers = .chip →
      (∀ x, i = .readStatusRegister x → s.chip.asleep = false →
        t.st.getLsbD 0 = decide (s.chip.busyFor ≠ 0) ∧ t.st.getLsbD 1 = s.chip.wel ∧
        ∀ k, 2 ≤ k → k < 8 → t.st.getLsbD k = s.chip.sr.getLsbD k) ∧
      (∀ xs, i = .jedecId xs → xs.length = 3 → s.chip.listens = true →
        t.miso.drop 1 = [s.chip.jedec.extractLsb' 16 8, s.chip.jedec.extractLsb' 8 8, s.chip.jedec.extractLsb' 0 8]) ∧
      (∀ xs, i = .readUniqueId xs → xs.length = 12 → s.chip.listens = true →
        t.miso.drop 5 = [s.chip.uid.extractLsb' 56 8, s.chip.uid.extractLsb' 48 8, s.chip.uid.extractLsb' 40 8,
          s.chip.uid.extractLsb' 32 8, s.chip.uid.extractLsb' 24 8, s.chip.uid.extractLsb' 16 8,
          s.chip.uid.extractLsb' 8 8, s.chip.uid.extractLsb' 0 8]))
end

