-- ==== Sys2Proof/Laws/Chip.lean ====
section
/-! SUPPORT. What a frame does to the reference chip, by the three states the chip can be in. -/

namespace Sys2Proof.Machine

/-- A busy chip obeys nothing: one frame of its cycle elapses. -/
theorem Chip.receive_of_busy {c : Chip} (size n : Nat) (i : Instr) (h : c.busyFor ≠ 0) :
    c.receive size n i = { c with busyFor := c.busyFor - 1, wel := c.wel && decide (c.busyFor ≠ 1) } := by
  by_cases h1 : c.busyFor = 1 <;> simp [Chip.receive, Chip.busy, Chip.elapse, h, h1]

/-- A chip that is powered down obeys RELEASE POWER-DOWN alone. -/
theorem Chip.receive_of_asleep {c : Chip} (size n : Nat) (i : Instr) (hb : c.busyFor = 0) (ha : c.asleep = true) :
    c.receive size n i = if i = .releasePowerDown then { c with asleep := false } else c := by
  simp [Chip.receive, Chip.busy, hb, ha]

/-- Any other chip obeys. -/
theorem Chip.receive_of_listens {c : Chip} (size n : Nat) (i : Instr) (h : c.listens = true) :
    c.receive size n i = c.obey size n i := by
  simp only [Chip.listens, Bool.and_eq_true, Bool.not_eq_true'] at h
  simp [Chip.receive, h.1, h.2]

/-- The status byte, bit by bit: busy, the latch, the stored bits (log 25). -/
theorem Chip.status_bit (c : Chip) (k : Nat) :
    c.status.getLsbD k =
      if k = 0 then c.busy else if k = 1 then c.wel else decide (k < 8) && c.sr.getLsbD k := by
  by_cases hk : k < 8
  · have : k = 0 ∨ k = 1 ∨ k = 2 ∨ k = 3 ∨ k = 4 ∨ k = 5 ∨ k = 6 ∨ k = 7 := by omega
    rcases this with rfl | rfl | rfl | rfl | rfl | rfl | rfl | rfl <;>
      cases hw : c.wel <;> cases hb : c.busy <;> simp [Chip.status, hw, hb]
  · rw [BitVec.getLsbD_of_ge _ _ (by omega), if_neg (by omega), if_neg (by omega)]
    simp [hk]

end Sys2Proof.Machine
end

