-- ==== Sys2Proof/Laws/Decode.lean ====
section
/-! SUPPORT. The small laws of the two encodings: addresses, limits, and what each frame format can decode to. -/

namespace Sys2Proof

@[simp] theorem addr3_length (a : FlashAddr) : (addr3 a).length = 3 := rfl

/-- The address bytes of an address, read back, are the address (R84). -/
theorem addr24_of_addr3 (a : FlashAddr) :
    addr24 (a.extractLsb' 16 8) (a.extractLsb' 8 8) (a.extractLsb' 0 8) = a := by
  apply BitVec.eq_of_getLsbD_eq
  intro i hi
  simp only [addr24, BitVec.getLsbD_append, BitVec.getLsbD_extractLsb']
  by_cases h0 : i < 8
  · simp [h0]
  · by_cases h1 : i - 8 < 8
    · rw [if_neg h0, if_pos h1, decide_eq_true h1, Bool.true_and]; congr 1; omega
    · have h2 : i - 8 - 8 < 8 := by omega
      rw [if_neg h0, if_neg h1, decide_eq_true h2, Bool.true_and]; congr 1; omega

/-- Three bytes read as an address and written again are those bytes (R84). -/
theorem addr3_of_addr24 (a2 a1 a0 : Byte) : addr3 (addr24 a2 a1 a0) = [a2, a1, a0] := by
  have h2 : (addr24 a2 a1 a0).extractLsb' 16 8 = a2 := by
    apply BitVec.eq_of_getLsbD_eq
    intro i hi
    simp only [addr24, BitVec.getLsbD_append, BitVec.getLsbD_extractLsb', hi, decide_true, Bool.true_and]
    rw [if_neg (by omega), if_neg (by omega)]; congr 1; omega
  have h1 : (addr24 a2 a1 a0).extractLsb' 8 8 = a1 := by
    apply BitVec.eq_of_getLsbD_eq
    intro i hi
    simp only [addr24, BitVec.getLsbD_append, BitVec.getLsbD_extractLsb', hi, decide_true, Bool.true_and]
    rw [if_neg (by omega), if_pos (by omega)]; congr 1; omega
  have h0 : (addr24 a2 a1 a0).extractLsb' 0 8 = a0 := by
    apply BitVec.eq_of_getLsbD_eq
    intro i hi
    simp only [addr24, BitVec.getLsbD_append, BitVec.getLsbD_extractLsb', hi, decide_true, Bool.true_and]
    rw [if_pos (by omega)]; congr 1; omega
  simp [addr3, h2, h1, h0]

theorem checked_ok {i j : Instr} {e : DecodeError} : checked i e = .ok j ↔ i = j ∧ i.fitsFormat = true := by
  unfold checked
  split <;> simp_all
theorem checked_of_fitsFormat {i : Instr} {e : DecodeError} (h : i.fitsFormat = true) : checked i e = .ok i := by
  simp [checked, h]

theorem Instr.fitsFormat_of_wellFormed {i : Instr} (h : i.wellFormed = true) : i.fitsFormat = true := by
  simp_all [Instr.wellFormed]

/-- The payload of a PAGE PROGRAM (R82). -/
@[simp] theorem Instr.fitsFormat_pageProgram (a : FlashAddr) (p : List Byte) :
    (Instr.pageProgram a p).fitsFormat = true ↔ 1 ≤ p.length ∧ p.length ≤ 256 := by
  simp only [Instr.fitsFormat, Bool.and_eq_true, decide_eq_true_eq]; rfl

/-- The payload of a PAGE PROGRAM and its page (R82, R186). -/
@[simp] theorem Instr.wellFormed_pageProgram (a : FlashAddr) (p : List Byte) :
    (Instr.pageProgram a p).wellFormed = true ↔
      (1 ≤ p.length ∧ p.length ≤ 256) ∧ a.toNat % 256 + p.length ≤ 256 := by
  simp only [Instr.wellFormed, Instr.addressLegal, Instr.fitsFormat, Bool.and_eq_true, decide_eq_true_eq]; rfl

/-! What each format of R82 can decode to. -/

theorem decodeOp_ok {i j : Instr} {rest : List Byte} : decodeOp i rest = .ok j ↔ rest = [] ∧ i = j := by
  cases rest <;> simp [decodeOp]

theorem decodeReg_ok {f : Byte → Instr} {j : Instr} {rest : List Byte} :
    decodeReg f rest = .ok j ↔ ∃ v, rest = [v] ∧ f v = j := by
  rcases rest with _ | ⟨v, _ | ⟨w, rest⟩⟩ <;> simp [decodeReg]

theorem decodeAddr_ok {f : FlashAddr → Instr} {j : Instr} {rest : List Byte} :
    decodeAddr f rest = .ok j ↔ ∃ a, rest = addr3 a ∧ f a = j := by
  constructor
  · rcases rest with _ | ⟨a2, _ | ⟨a1, _ | ⟨a0, _ | ⟨b, rest⟩⟩⟩⟩ <;> intro h <;> simp only [decodeAddr, reduceCtorEq] at h
    exact ⟨addr24 a2 a1 a0, (addr3_of_addr24 a2 a1 a0).symm, Except.ok.inj h⟩
  · rintro ⟨a, rfl, rfl⟩
    simp only [addr3, decodeAddr, addr24_of_addr3]

theorem decodeAddrData_ok {f : FlashAddr → List Byte → Instr} {j : Instr} {rest : List Byte} :
    decodeAddrData f rest = .ok j ↔ ∃ a p, rest = addr3 a ++ p ∧ f a p = j ∧ (f a p).fitsFormat = true := by
  constructor
  · rcases rest with _ | ⟨a2, _ | ⟨a1, _ | ⟨a0, p⟩⟩⟩ <;> intro h <;> simp only [decodeAddrData, reduceCtorEq] at h
    exact ⟨addr24 a2 a1 a0, p, by simp [addr3_of_addr24], checked_ok.1 h⟩
  · rintro ⟨a, p, rfl, h⟩
    simp only [addr3, List.cons_append, List.nil_append, decodeAddrData, addr24_of_addr3]
    exact checked_ok.2 h

/-- What a request decodes to is a host operation. -/
theorem decodeRequest_isOperation {r : Request} {i : Instr} (h : decodeRequest r = .ok i) : i.isOperation = true := by
  simp only [decodeRequest] at h
  split_ifs at h
  all_goals simp only [checked_ok, Except.ok.injEq] at h
  all_goals (first | (subst h; rfl) | (rw [← h.1]; rfl))

end Sys2Proof
end

