-- ==== Sys2Proof/Laws/Memory.lean ====
section
/-! SUPPORT. The flash array as canonical memory: what a write, an erase and a program command do to each byte, and that
they keep the canonical form. -/

namespace Sys2Proof.Machine

theorem Memory.wf_nil : Memory.wf [] := ⟨List.Pairwise.nil, by simp⟩

theorem Memory.wf_cons {c : Host.Cell} {m : Memory} :
    Memory.wf (c :: m) ↔ (∀ d ∈ m, c.1 < d.1) ∧ c.2 ≠ erasedByte ∧ Memory.wf m := by
  simp [Memory.wf, List.pairwise_cons]
  tauto

theorem Memory.read_of_below {m : Memory} {a : Nat} (h : ∀ d ∈ m, a < d.1) : Memory.read m a = erasedByte := by
  induction m with
  | nil => rfl
  | cons c m ih =>
    have hc := h c (by simp)
    simp [Memory.read, Nat.ne_of_gt hc, ih fun d hd => h d (by simp [hd])]

/-- Every address listed after a write was listed before, or is the address written. -/
theorem Memory.mem_write {m : Memory} {a : Nat} {v : Byte} {d : Host.Cell} (h : d ∈ Memory.write m a v) : d ∈ m ∨ d.1 = a := by
  induction m with
  | nil =>
    simp only [Memory.write] at h
    split at h <;> simp_all
  | cons c m ih =>
    obtain ⟨k, w⟩ := c
    simp only [Memory.write] at h
    split_ifs at h
    · exact .inl h
    · rcases List.mem_cons.1 h with rfl | h
      · exact .inr rfl
      · exact .inl h
    · exact .inl (List.mem_cons_of_mem _ h)
    · rcases List.mem_cons.1 h with rfl | h
      · exact .inr rfl
      · exact .inl (List.mem_cons_of_mem _ h)
    · rcases List.mem_cons.1 h with rfl | h
      · exact .inl (by simp)
      · exact (ih h).imp (List.mem_cons_of_mem _) id

theorem Memory.write_wf {m : Memory} (a : Nat) (v : Byte) (h : Memory.wf m) : Memory.wf (Memory.write m a v) := by
  induction m with
  | nil =>
    simp only [Memory.write]
    split <;> simp_all [Memory.wf]
  | cons c m ih =>
    obtain ⟨k, w⟩ := c
    obtain ⟨hk, hw, hm⟩ := Memory.wf_cons.1 h
    simp only [Memory.write]
    split_ifs with h1 h2 h3 h4
    · exact h
    · refine Memory.wf_cons.2 ⟨fun d hd => ?_, h2, h⟩
      rcases List.mem_cons.1 hd with rfl | hd
      · exact h1
      · exact lt_trans h1 (hk d hd)
    · exact hm
    · exact Memory.wf_cons.2 ⟨fun d hd => h3 ▸ hk d hd, h4, hm⟩
    · refine Memory.wf_cons.2 ⟨fun d hd => ?_, hw, ih hm⟩
      rcases Memory.mem_write hd with hd | hd
      · exact hk d hd
      · simp only at hd ⊢; omega

theorem Memory.read_write {m : Memory} (h : Memory.wf m) (a b : Nat) (v : Byte) :
    Memory.read (Memory.write m a v) b = if b = a then v else Memory.read m b := by
  induction m with
  | nil =>
    simp only [Memory.write]
    split_ifs <;> simp_all [Memory.read]
    all_goals omega
  | cons c m ih =>
    obtain ⟨k, w⟩ := c
    obtain ⟨hk, hw, hm⟩ := Memory.wf_cons.1 h
    simp only at hk
    have below : a ≤ k → Memory.read m a = erasedByte := fun ha =>
      Memory.read_of_below fun d hd => lt_of_le_of_lt ha (hk d hd)
    simp only [Memory.write]
    split_ifs with h1 h2 hb hb h3 h4 hb hb hb
    · subst hb
      simp [Memory.read, below h1.le, h2, show k ≠ b by omega]
    · rfl
    · simp [Memory.read, hb]
    · simp [Memory.read, Ne.symm hb]
    · subst hb
      simp [below h3.le, h4]
    · simp [Memory.read, show k ≠ b by omega]
    · simp [Memory.read, hb]
    · simp [Memory.read, show k ≠ b by omega, show a ≠ b by omega]
    · subst hb
      simp [Memory.read, ih hm, Ne.symm h3]
    · simp [Memory.read, ih hm, hb]

theorem Memory.erase_wf {m : Memory} (lo n : Nat) (h : Memory.wf m) : Memory.wf (Memory.eraseRange m lo n) :=
  ⟨h.1.filter _, fun c hc => h.2 c (List.mem_filter.1 hc).1⟩

theorem Memory.read_erase {m : Memory} (lo n b : Nat) :
    Memory.read (Memory.eraseRange m lo n) b = if lo ≤ b ∧ b < lo + n then erasedByte else Memory.read m b := by
  induction m with
  | nil => simp [Memory.eraseRange, Memory.read]
  | cons c m ih =>
    obtain ⟨k, w⟩ := c
    by_cases hin : lo ≤ k ∧ k < lo + n
    · have : Memory.eraseRange ((k, w) :: m) lo n = Memory.eraseRange m lo n := by simp [Memory.eraseRange, hin.1, hin.2]
      rw [this, ih]
      by_cases hb : k = b
      · subst hb; simp [hin]
      · simp [Memory.read, hb]
    · have : Memory.eraseRange ((k, w) :: m) lo n = (k, w) :: Memory.eraseRange m lo n := by
        simp only [Memory.eraseRange]
        rw [List.filter_cons_of_pos]
        simp; omega
      rw [this]
      by_cases hb : k = b
      · subst hb; simp [Memory.read, hin]
      · simp [Memory.read, hb, ih]

theorem Memory.program_wf (size a : Nat) {j : Nat} {p : List Byte} {m : Memory} (h : Memory.wf m) :
    Memory.wf (Memory.program size a j p m) := by
  induction p generalizing j m with
  | nil => exact h
  | cons b bs ih =>
    simp only [Memory.program]
    split
    · exact ih (Memory.write_wf _ _ h)
    · exact ih h

/-- A byte that no payload byte goes to is unchanged. -/
theorem Memory.read_program_other (size a : Nat) {j : Nat} {p : List Byte} {m : Memory} (h : Memory.wf m) (b : Nat)
    (hb : ∀ k, j ≤ k → k < j + p.length → programAddr a k ≠ b) : Memory.read (Memory.program size a j p m) b = Memory.read m b := by
  induction p generalizing j m with
  | nil => rfl
  | cons c cs ih =>
    have hj : programAddr a j ≠ b := hb j (le_refl j) (by simp)
    have hrest : ∀ k, j + 1 ≤ k → k < j + 1 + cs.length → programAddr a k ≠ b := fun k h1 h2 =>
      hb k (by omega) (by simp; omega)
    simp only [Memory.program]
    split
    · rw [ih (Memory.write_wf _ _ h) hrest, Memory.read_write h, if_neg (Ne.symm hj)]
    · exact ih h hrest

end Sys2Proof.Machine
end

