-- ==== Sys2Proof/Laws/State.lean ====
section
/-! SUPPORT. What every named update of the state does to every field, one lemma each, so that no proof unfolds a record
update. -/

namespace Sys2Proof.Machine

variable (s : State)

/-! ### State.goto -/

@[simp] theorem goto_flashSize (k : Seq) : (s.goto k).flashSize = s.flashSize := rfl
@[simp] theorem goto_poweredDown (k : Seq) : (s.goto k).poweredDown = s.poweredDown := rfl
@[simp] theorem goto_inited (k : Seq) : (s.goto k).inited = s.inited := rfl
@[simp] theorem goto_transportReady (k : Seq) : (s.goto k).transportReady = s.transportReady := rfl
@[simp] theorem goto_seq (k : Seq) : (s.goto k).seq = k := rfl
@[simp] theorem goto_req (k : Seq) : (s.goto k).req = s.req := rfl
@[simp] theorem goto_resp (k : Seq) : (s.goto k).resp = s.resp := rfl
@[simp] theorem goto_cur (k : Seq) : (s.goto k).cur = s.cur := rfl
@[simp] theorem goto_rem (k : Seq) : (s.goto k).rem = s.rem := rfl
@[simp] theorem goto_chunk (k : Seq) : (s.goto k).chunk = s.chunk := rfl
@[simp] theorem goto_idx (k : Seq) : (s.goto k).idx = s.idx := rfl
@[simp] theorem goto_t0 (k : Seq) : (s.goto k).t0 = s.t0 := rfl
@[simp] theorem goto_st (k : Seq) : (s.goto k).st = s.st := rfl
@[simp] theorem goto_miso (k : Seq) : (s.goto k).miso = s.miso := rfl
@[simp] theorem goto_frame (k : Seq) : (s.goto k).frame = s.frame := rfl
@[simp] theorem goto_requests (k : Seq) : (s.goto k).requests = s.requests := rfl
@[simp] theorem goto_responses (k : Seq) : (s.goto k).responses = s.responses := rfl
@[simp] theorem goto_trace (k : Seq) : (s.goto k).trace = s.trace := rfl
@[simp] theorem goto_answers (k : Seq) : (s.goto k).answers = s.answers := rfl
@[simp] theorem goto_rx (k : Seq) : (s.goto k).rx = s.rx := rfl
@[simp] theorem goto_fill (k : Seq) : (s.goto k).fill = s.fill := rfl
@[simp] theorem goto_ticks (k : Seq) : (s.goto k).ticks = s.ticks := rfl
@[simp] theorem goto_clock (k : Seq) : (s.goto k).clock = s.clock := rfl
@[simp] theorem goto_cycles (k : Seq) : (s.goto k).cycles = s.cycles := rfl
@[simp] theorem goto_chip (k : Seq) : (s.goto k).chip = s.chip := rfl

/-! ### State.post -/

@[simp] theorem post_flashSize (i : Instr) : (s.post i).flashSize = s.flashSize := rfl
@[simp] theorem post_poweredDown (i : Instr) : (s.post i).poweredDown = s.poweredDown := rfl
@[simp] theorem post_inited (i : Instr) : (s.post i).inited = s.inited := rfl
@[simp] theorem post_transportReady (i : Instr) : (s.post i).transportReady = s.transportReady := rfl
@[simp] theorem post_seq (i : Instr) : (s.post i).seq = s.seq := rfl
@[simp] theorem post_req (i : Instr) : (s.post i).req = s.req := rfl
@[simp] theorem post_resp (i : Instr) : (s.post i).resp = s.resp := rfl
@[simp] theorem post_cur (i : Instr) : (s.post i).cur = s.cur := rfl
@[simp] theorem post_rem (i : Instr) : (s.post i).rem = s.rem := rfl
@[simp] theorem post_chunk (i : Instr) : (s.post i).chunk = s.chunk := rfl
@[simp] theorem post_idx (i : Instr) : (s.post i).idx = s.idx := rfl
@[simp] theorem post_t0 (i : Instr) : (s.post i).t0 = s.t0 := rfl
@[simp] theorem post_st (i : Instr) : (s.post i).st = s.st := rfl
@[simp] theorem post_miso (i : Instr) : (s.post i).miso = s.miso := rfl
@[simp] theorem post_frame (i : Instr) : (s.post i).frame = encodeFrame i := rfl
@[simp] theorem post_requests (i : Instr) : (s.post i).requests = s.requests := rfl
@[simp] theorem post_responses (i : Instr) : (s.post i).responses = s.responses := rfl
@[simp] theorem post_trace (i : Instr) : (s.post i).trace = s.trace := rfl
@[simp] theorem post_answers (i : Instr) : (s.post i).answers = s.answers := rfl
@[simp] theorem post_rx (i : Instr) : (s.post i).rx = s.rx := rfl
@[simp] theorem post_fill (i : Instr) : (s.post i).fill = s.fill := rfl
@[simp] theorem post_ticks (i : Instr) : (s.post i).ticks = s.ticks := rfl
@[simp] theorem post_clock (i : Instr) : (s.post i).clock = s.clock := rfl
@[simp] theorem post_cycles (i : Instr) : (s.post i).cycles = s.cycles := rfl
@[simp] theorem post_chip (i : Instr) : (s.post i).chip = s.chip := rfl

/-! ### State.accept -/

@[simp] theorem accept_flashSize : s.accept.flashSize = s.flashSize := rfl
@[simp] theorem accept_poweredDown : s.accept.poweredDown = s.poweredDown := rfl
@[simp] theorem accept_inited : s.accept.inited = s.inited := rfl
@[simp] theorem accept_transportReady : s.accept.transportReady = s.transportReady := rfl
@[simp] theorem accept_seq : s.accept.seq = s.seq := rfl
@[simp] theorem accept_req : s.accept.req = s.req := rfl
@[simp] theorem accept_resp : s.accept.resp = none := rfl
@[simp] theorem accept_cur : s.accept.cur = s.cur := rfl
@[simp] theorem accept_rem : s.accept.rem = s.rem := rfl
@[simp] theorem accept_chunk : s.accept.chunk = s.chunk := rfl
@[simp] theorem accept_idx : s.accept.idx = s.idx := rfl
@[simp] theorem accept_t0 : s.accept.t0 = s.t0 := rfl
@[simp] theorem accept_st : s.accept.st = s.st := rfl
@[simp] theorem accept_miso : s.accept.miso = s.miso := rfl
@[simp] theorem accept_frame : s.accept.frame = s.frame := rfl
@[simp] theorem accept_requests : s.accept.requests = s.requests := rfl
@[simp] theorem accept_responses : s.accept.responses = s.responses := rfl
@[simp] theorem accept_trace : s.accept.trace = s.trace := rfl
@[simp] theorem accept_answers : s.accept.answers = s.answers := rfl
@[simp] theorem accept_rx : s.accept.rx = s.rx := rfl
@[simp] theorem accept_fill : s.accept.fill = s.fill := rfl
@[simp] theorem accept_ticks : s.accept.ticks = s.ticks := rfl
@[simp] theorem accept_clock : s.accept.clock = s.clock := rfl
@[simp] theorem accept_cycles : s.accept.cycles = s.cycles := rfl
@[simp] theorem accept_chip : s.accept.chip = s.chip := rfl

/-! ### State.tookFillers -/

@[simp] theorem tookFillers_flashSize (n : Nat) : (s.tookFillers n).flashSize = s.flashSize := rfl
@[simp] theorem tookFillers_poweredDown (n : Nat) : (s.tookFillers n).poweredDown = s.poweredDown := rfl
@[simp] theorem tookFillers_inited (n : Nat) : (s.tookFillers n).inited = s.inited := rfl
@[simp] theorem tookFillers_transportReady (n : Nat) : (s.tookFillers n).transportReady = s.transportReady := rfl
@[simp] theorem tookFillers_seq (n : Nat) : (s.tookFillers n).seq = s.seq := rfl
@[simp] theorem tookFillers_req (n : Nat) : (s.tookFillers n).req = s.req := rfl
@[simp] theorem tookFillers_resp (n : Nat) : (s.tookFillers n).resp = s.resp := rfl
@[simp] theorem tookFillers_cur (n : Nat) : (s.tookFillers n).cur = s.cur := rfl
@[simp] theorem tookFillers_rem (n : Nat) : (s.tookFillers n).rem = s.rem := rfl
@[simp] theorem tookFillers_chunk (n : Nat) : (s.tookFillers n).chunk = s.chunk := rfl
@[simp] theorem tookFillers_idx (n : Nat) : (s.tookFillers n).idx = s.idx := rfl
@[simp] theorem tookFillers_t0 (n : Nat) : (s.tookFillers n).t0 = s.t0 := rfl
@[simp] theorem tookFillers_st (n : Nat) : (s.tookFillers n).st = s.st := rfl
@[simp] theorem tookFillers_miso (n : Nat) : (s.tookFillers n).miso = s.miso := rfl
@[simp] theorem tookFillers_frame (n : Nat) : (s.tookFillers n).frame = s.frame := rfl
@[simp] theorem tookFillers_requests (n : Nat) : (s.tookFillers n).requests = s.requests := rfl
@[simp] theorem tookFillers_responses (n : Nat) : (s.tookFillers n).responses = s.responses := rfl
@[simp] theorem tookFillers_trace (n : Nat) : (s.tookFillers n).trace = s.trace := rfl
@[simp] theorem tookFillers_answers (n : Nat) : (s.tookFillers n).answers = s.answers := rfl
@[simp] theorem tookFillers_rx (n : Nat) : (s.tookFillers n).rx = s.rx := rfl
@[simp] theorem tookFillers_fill (n : Nat) : (s.tookFillers n).fill = s.fill.skip n := rfl
@[simp] theorem tookFillers_ticks (n : Nat) : (s.tookFillers n).ticks = s.ticks := rfl
@[simp] theorem tookFillers_clock (n : Nat) : (s.tookFillers n).clock = s.clock := rfl
@[simp] theorem tookFillers_cycles (n : Nat) : (s.tookFillers n).cycles = s.cycles := rfl
@[simp] theorem tookFillers_chip (n : Nat) : (s.tookFillers n).chip = s.chip := rfl

/-! ### State.respond -/

@[simp] theorem respond_flashSize (e : Result) (v : Option RespValue) (d : Option (List Byte)) : (s.respond e v d).flashSize = s.flashSize := rfl
@[simp] theorem respond_poweredDown (e : Result) (v : Option RespValue) (d : Option (List Byte)) : (s.respond e v d).poweredDown = s.poweredDown := rfl
@[simp] theorem respond_inited (e : Result) (v : Option RespValue) (d : Option (List Byte)) : (s.respond e v d).inited = s.inited := rfl
@[simp] theorem respond_transportReady (e : Result) (v : Option RespValue) (d : Option (List Byte)) : (s.respond e v d).transportReady = s.transportReady := rfl
@[simp] theorem respond_seq (e : Result) (v : Option RespValue) (d : Option (List Byte)) : (s.respond e v d).seq = .idle := rfl
@[simp] theorem respond_req (e : Result) (v : Option RespValue) (d : Option (List Byte)) : (s.respond e v d).req = s.req := rfl
@[simp] theorem respond_resp (e : Result) (v : Option RespValue) (d : Option (List Byte)) : (s.respond e v d).resp = some ⟨e, v, d⟩ := rfl
@[simp] theorem respond_cur (e : Result) (v : Option RespValue) (d : Option (List Byte)) : (s.respond e v d).cur = s.cur := rfl
@[simp] theorem respond_rem (e : Result) (v : Option RespValue) (d : Option (List Byte)) : (s.respond e v d).rem = s.rem := rfl
@[simp] theorem respond_chunk (e : Result) (v : Option RespValue) (d : Option (List Byte)) : (s.respond e v d).chunk = s.chunk := rfl
@[simp] theorem respond_idx (e : Result) (v : Option RespValue) (d : Option (List Byte)) : (s.respond e v d).idx = s.idx := rfl
@[simp] theorem respond_t0 (e : Result) (v : Option RespValue) (d : Option (List Byte)) : (s.respond e v d).t0 = s.t0 := rfl
@[simp] theorem respond_st (e : Result) (v : Option RespValue) (d : Option (List Byte)) : (s.respond e v d).st = s.st := rfl
@[simp] theorem respond_miso (e : Result) (v : Option RespValue) (d : Option (List Byte)) : (s.respond e v d).miso = s.miso := rfl
@[simp] theorem respond_frame (e : Result) (v : Option RespValue) (d : Option (List Byte)) : (s.respond e v d).frame = s.frame := rfl
@[simp] theorem respond_requests (e : Result) (v : Option RespValue) (d : Option (List Byte)) : (s.respond e v d).requests = s.requests := rfl
@[simp] theorem respond_responses (e : Result) (v : Option RespValue) (d : Option (List Byte)) : (s.respond e v d).responses = s.responses ++ [⟨e, v, d⟩] := rfl
@[simp] theorem respond_trace (e : Result) (v : Option RespValue) (d : Option (List Byte)) : (s.respond e v d).trace = s.trace := rfl
@[simp] theorem respond_answers (e : Result) (v : Option RespValue) (d : Option (List Byte)) : (s.respond e v d).answers = s.answers := rfl
@[simp] theorem respond_rx (e : Result) (v : Option RespValue) (d : Option (List Byte)) : (s.respond e v d).rx = s.rx := rfl
@[simp] theorem respond_fill (e : Result) (v : Option RespValue) (d : Option (List Byte)) : (s.respond e v d).fill = s.fill := rfl
@[simp] theorem respond_ticks (e : Result) (v : Option RespValue) (d : Option (List Byte)) : (s.respond e v d).ticks = s.ticks := rfl
@[simp] theorem respond_clock (e : Result) (v : Option RespValue) (d : Option (List Byte)) : (s.respond e v d).clock = s.clock := rfl
@[simp] theorem respond_cycles (e : Result) (v : Option RespValue) (d : Option (List Byte)) : (s.respond e v d).cycles = s.cycles := rfl
@[simp] theorem respond_chip (e : Result) (v : Option RespValue) (d : Option (List Byte)) : (s.respond e v d).chip = s.chip := rfl

/-! ### State.answer -/

@[simp] theorem answer_flashSize (e : Result) : (s.answer e).flashSize = s.flashSize := rfl
@[simp] theorem answer_poweredDown (e : Result) : (s.answer e).poweredDown = s.poweredDown := rfl
@[simp] theorem answer_inited (e : Result) : (s.answer e).inited = s.inited := rfl
@[simp] theorem answer_transportReady (e : Result) : (s.answer e).transportReady = s.transportReady := rfl
@[simp] theorem answer_seq (e : Result) : (s.answer e).seq = .idle := rfl
@[simp] theorem answer_req (e : Result) : (s.answer e).req = s.req := rfl
@[simp] theorem answer_resp (e : Result) : (s.answer e).resp = some ⟨e, none, none⟩ := rfl
@[simp] theorem answer_cur (e : Result) : (s.answer e).cur = s.cur := rfl
@[simp] theorem answer_rem (e : Result) : (s.answer e).rem = s.rem := rfl
@[simp] theorem answer_chunk (e : Result) : (s.answer e).chunk = s.chunk := rfl
@[simp] theorem answer_idx (e : Result) : (s.answer e).idx = s.idx := rfl
@[simp] theorem answer_t0 (e : Result) : (s.answer e).t0 = s.t0 := rfl
@[simp] theorem answer_st (e : Result) : (s.answer e).st = s.st := rfl
@[simp] theorem answer_miso (e : Result) : (s.answer e).miso = s.miso := rfl
@[simp] theorem answer_frame (e : Result) : (s.answer e).frame = s.frame := rfl
@[simp] theorem answer_requests (e : Result) : (s.answer e).requests = s.requests := rfl
@[simp] theorem answer_responses (e : Result) : (s.answer e).responses = s.responses ++ [⟨e, none, none⟩] := rfl
@[simp] theorem answer_trace (e : Result) : (s.answer e).trace = s.trace := rfl
@[simp] theorem answer_answers (e : Result) : (s.answer e).answers = s.answers := rfl
@[simp] theorem answer_rx (e : Result) : (s.answer e).rx = s.rx := rfl
@[simp] theorem answer_fill (e : Result) : (s.answer e).fill = s.fill := rfl
@[simp] theorem answer_ticks (e : Result) : (s.answer e).ticks = s.ticks := rfl
@[simp] theorem answer_clock (e : Result) : (s.answer e).clock = s.clock := rfl
@[simp] theorem answer_cycles (e : Result) : (s.answer e).cycles = s.cycles := rfl
@[simp] theorem answer_chip (e : Result) : (s.answer e).chip = s.chip := rfl

/-! ### State.initializeAsController -/

@[simp] theorem initializeAsController_flashSize : s.initializeAsController.flashSize = s.flashSize := rfl
@[simp] theorem initializeAsController_poweredDown : s.initializeAsController.poweredDown = s.poweredDown := rfl
@[simp] theorem initializeAsController_inited : s.initializeAsController.inited = s.inited := rfl
@[simp] theorem initializeAsController_transportReady : s.initializeAsController.transportReady = true := rfl
@[simp] theorem initializeAsController_seq : s.initializeAsController.seq = s.seq := rfl
@[simp] theorem initializeAsController_req : s.initializeAsController.req = s.req := rfl
@[simp] theorem initializeAsController_resp : s.initializeAsController.resp = s.resp := rfl
@[simp] theorem initializeAsController_cur : s.initializeAsController.cur = s.cur := rfl
@[simp] theorem initializeAsController_rem : s.initializeAsController.rem = s.rem := rfl
@[simp] theorem initializeAsController_chunk : s.initializeAsController.chunk = s.chunk := rfl
@[simp] theorem initializeAsController_idx : s.initializeAsController.idx = s.idx := rfl
@[simp] theorem initializeAsController_t0 : s.initializeAsController.t0 = s.t0 := rfl
@[simp] theorem initializeAsController_st : s.initializeAsController.st = s.st := rfl
@[simp] theorem initializeAsController_miso : s.initializeAsController.miso = s.miso := rfl
@[simp] theorem initializeAsController_frame : s.initializeAsController.frame = s.frame := rfl
@[simp] theorem initializeAsController_requests : s.initializeAsController.requests = s.requests := rfl
@[simp] theorem initializeAsController_responses : s.initializeAsController.responses = s.responses := rfl
@[simp] theorem initializeAsController_trace : s.initializeAsController.trace = s.trace ++ [.busInit] := rfl
@[simp] theorem initializeAsController_answers : s.initializeAsController.answers = s.answers := rfl
@[simp] theorem initializeAsController_rx : s.initializeAsController.rx = s.rx := rfl
@[simp] theorem initializeAsController_fill : s.initializeAsController.fill = s.fill := rfl
@[simp] theorem initializeAsController_ticks : s.initializeAsController.ticks = s.ticks := rfl
@[simp] theorem initializeAsController_clock : s.initializeAsController.clock = s.clock := rfl
@[simp] theorem initializeAsController_cycles : s.initializeAsController.cycles = s.cycles := rfl
@[simp] theorem initializeAsController_chip : s.initializeAsController.chip = s.chip := rfl

/-! ### State.readClock -/

@[simp] theorem readClock_flashSize : s.readClock.flashSize = s.flashSize := rfl
@[simp] theorem readClock_poweredDown : s.readClock.poweredDown = s.poweredDown := rfl
@[simp] theorem readClock_inited : s.readClock.inited = s.inited := rfl
@[simp] theorem readClock_transportReady : s.readClock.transportReady = s.transportReady := rfl
@[simp] theorem readClock_seq : s.readClock.seq = s.seq := rfl
@[simp] theorem readClock_req : s.readClock.req = s.req := rfl
@[simp] theorem readClock_resp : s.readClock.resp = s.resp := rfl
@[simp] theorem readClock_cur : s.readClock.cur = s.cur := rfl
@[simp] theorem readClock_rem : s.readClock.rem = s.rem := rfl
@[simp] theorem readClock_chunk : s.readClock.chunk = s.chunk := rfl
@[simp] theorem readClock_idx : s.readClock.idx = s.idx := rfl
@[simp] theorem readClock_t0 : s.readClock.t0 = s.t0 := rfl
@[simp] theorem readClock_st : s.readClock.st = s.st := rfl
@[simp] theorem readClock_miso : s.readClock.miso = s.miso := rfl
@[simp] theorem readClock_frame : s.readClock.frame = s.frame := rfl
@[simp] theorem readClock_requests : s.readClock.requests = s.requests := rfl
@[simp] theorem readClock_responses : s.readClock.responses = s.responses := rfl
@[simp] theorem readClock_trace : s.readClock.trace = s.trace ++ [.now (s.clock + s.ticks.peek Config.freeTick 0)] := rfl
@[simp] theorem readClock_answers : s.readClock.answers = s.answers := rfl
@[simp] theorem readClock_rx : s.readClock.rx = s.rx := rfl
@[simp] theorem readClock_fill : s.readClock.fill = s.fill := rfl
@[simp] theorem readClock_ticks : s.readClock.ticks = s.ticks.skip 1 := rfl
@[simp] theorem readClock_clock : s.readClock.clock = s.clock + s.ticks.peek Config.freeTick 0 := rfl
@[simp] theorem readClock_cycles : s.readClock.cycles = s.cycles := rfl
@[simp] theorem readClock_chip : s.readClock.chip = s.chip := rfl

/-! ### State.markStart -/

@[simp] theorem markStart_flashSize : s.markStart.flashSize = s.flashSize := rfl
@[simp] theorem markStart_poweredDown : s.markStart.poweredDown = s.poweredDown := rfl
@[simp] theorem markStart_inited : s.markStart.inited = s.inited := rfl
@[simp] theorem markStart_transportReady : s.markStart.transportReady = s.transportReady := rfl
@[simp] theorem markStart_seq : s.markStart.seq = s.seq := rfl
@[simp] theorem markStart_req : s.markStart.req = s.req := rfl
@[simp] theorem markStart_resp : s.markStart.resp = s.resp := rfl
@[simp] theorem markStart_cur : s.markStart.cur = s.cur := rfl
@[simp] theorem markStart_rem : s.markStart.rem = s.rem := rfl
@[simp] theorem markStart_chunk : s.markStart.chunk = s.chunk := rfl
@[simp] theorem markStart_idx : s.markStart.idx = s.idx := rfl
@[simp] theorem markStart_t0 : s.markStart.t0 = s.clock + s.ticks.peek Config.freeTick 0 := rfl
@[simp] theorem markStart_st : s.markStart.st = s.st := rfl
@[simp] theorem markStart_miso : s.markStart.miso = s.miso := rfl
@[simp] theorem markStart_frame : s.markStart.frame = s.frame := rfl
@[simp] theorem markStart_requests : s.markStart.requests = s.requests := rfl
@[simp] theorem markStart_responses : s.markStart.responses = s.responses := rfl
@[simp] theorem markStart_trace : s.markStart.trace = s.trace ++ [.now (s.clock + s.ticks.peek Config.freeTick 0)] := rfl
@[simp] theorem markStart_answers : s.markStart.answers = s.answers := rfl
@[simp] theorem markStart_rx : s.markStart.rx = s.rx := rfl
@[simp] theorem markStart_fill : s.markStart.fill = s.fill := rfl
@[simp] theorem markStart_ticks : s.markStart.ticks = s.ticks.skip 1 := rfl
@[simp] theorem markStart_clock : s.markStart.clock = s.clock + s.ticks.peek Config.freeTick 0 := rfl
@[simp] theorem markStart_cycles : s.markStart.cycles = s.cycles := rfl
@[simp] theorem markStart_chip : s.markStart.chip = s.chip := rfl

/-! ### State.postPoll -/

@[simp] theorem postPoll_flashSize : s.postPoll.flashSize = s.flashSize := rfl
@[simp] theorem postPoll_poweredDown : s.postPoll.poweredDown = s.poweredDown := rfl
@[simp] theorem postPoll_inited : s.postPoll.inited = s.inited := rfl
@[simp] theorem postPoll_transportReady : s.postPoll.transportReady = s.transportReady := rfl
@[simp] theorem postPoll_seq : s.postPoll.seq = s.seq := rfl
@[simp] theorem postPoll_req : s.postPoll.req = s.req := rfl
@[simp] theorem postPoll_resp : s.postPoll.resp = s.resp := rfl
@[simp] theorem postPoll_cur : s.postPoll.cur = s.cur := rfl
@[simp] theorem postPoll_rem : s.postPoll.rem = s.rem := rfl
@[simp] theorem postPoll_chunk : s.postPoll.chunk = s.chunk := rfl
@[simp] theorem postPoll_idx : s.postPoll.idx = s.idx := rfl
@[simp] theorem postPoll_t0 : s.postPoll.t0 = s.t0 := rfl
@[simp] theorem postPoll_st : s.postPoll.st = s.st := rfl
@[simp] theorem postPoll_miso : s.postPoll.miso = s.miso := rfl
@[simp] theorem postPoll_frame : s.postPoll.frame = some [0x05#8, (s.fillers 1).getD 0 0] := rfl
@[simp] theorem postPoll_requests : s.postPoll.requests = s.requests := rfl
@[simp] theorem postPoll_responses : s.postPoll.responses = s.responses := rfl
@[simp] theorem postPoll_trace : s.postPoll.trace = s.trace := rfl
@[simp] theorem postPoll_answers : s.postPoll.answers = s.answers := rfl
@[simp] theorem postPoll_rx : s.postPoll.rx = s.rx := rfl
@[simp] theorem postPoll_fill : s.postPoll.fill = s.fill.skip 1 := rfl
@[simp] theorem postPoll_ticks : s.postPoll.ticks = s.ticks := rfl
@[simp] theorem postPoll_clock : s.postPoll.clock = s.clock := rfl
@[simp] theorem postPoll_cycles : s.postPoll.cycles = s.cycles := rfl
@[simp] theorem postPoll_chip : s.postPoll.chip = s.chip := rfl

/-! ### State.transmit -/

@[simp] theorem transmit_flashSize (i : Instr) : (s.transmit i).flashSize = s.flashSize := rfl
@[simp] theorem transmit_poweredDown (i : Instr) : (s.transmit i).poweredDown = s.poweredDown := rfl
@[simp] theorem transmit_inited (i : Instr) : (s.transmit i).inited = s.inited := rfl
@[simp] theorem transmit_transportReady (i : Instr) : (s.transmit i).transportReady = s.transportReady := rfl
@[simp] theorem transmit_seq (i : Instr) : (s.transmit i).seq = s.seq := rfl
@[simp] theorem transmit_req (i : Instr) : (s.transmit i).req = s.req := rfl
@[simp] theorem transmit_resp (i : Instr) : (s.transmit i).resp = s.resp := rfl
@[simp] theorem transmit_cur (i : Instr) : (s.transmit i).cur = s.cur := rfl
@[simp] theorem transmit_rem (i : Instr) : (s.transmit i).rem = s.rem := rfl
@[simp] theorem transmit_chunk (i : Instr) : (s.transmit i).chunk = s.chunk := rfl
@[simp] theorem transmit_idx (i : Instr) : (s.transmit i).idx = s.idx := rfl
@[simp] theorem transmit_t0 (i : Instr) : (s.transmit i).t0 = s.t0 := rfl
@[simp] theorem transmit_st (i : Instr) : (s.transmit i).st = s.st := rfl
@[simp] theorem transmit_miso (i : Instr) : (s.transmit i).miso = s.received i ((encodeFrame i).getD []).length := rfl
@[simp] theorem transmit_frame (i : Instr) : (s.transmit i).frame = none := rfl
@[simp] theorem transmit_requests (i : Instr) : (s.transmit i).requests = s.requests := rfl
@[simp] theorem transmit_responses (i : Instr) : (s.transmit i).responses = s.responses := rfl
@[simp] theorem transmit_trace (i : Instr) : (s.transmit i).trace = s.trace ++ [.frame ((encodeFrame i).getD []) (s.transmit i).miso] := rfl
@[simp] theorem transmit_answers (i : Instr) : (s.transmit i).answers = s.answers := rfl
@[simp] theorem transmit_rx (i : Instr) : (s.transmit i).rx = s.rx.skip ((encodeFrame i).getD []).length := rfl
@[simp] theorem transmit_fill (i : Instr) : (s.transmit i).fill = s.fill := rfl
@[simp] theorem transmit_ticks (i : Instr) : (s.transmit i).ticks = s.ticks := rfl
@[simp] theorem transmit_clock (i : Instr) : (s.transmit i).clock = s.clock := rfl
@[simp] theorem transmit_cycles (i : Instr) : (s.transmit i).cycles = if s.chip.starts i then s.cycles.skip 1 else s.cycles := rfl
@[simp] theorem transmit_chip (i : Instr) : (s.transmit i).chip = s.chip.receive s.flashSize (s.cycles.peek Config.freeCycle 0) i := rfl

end Sys2Proof.Machine
end

