-- ==== Sys2Proof/Laws/Ops.lean ====
section
/-! SUPPORT. Each shared operation says once everything it can do. -/

namespace Sys2Proof.Machine

/-! ### Sources of answers -/

@[simp] theorem Source.ahead_length {α : Type} (free : Nat → α) (q : Source α) (n : Nat) :
    (q.ahead free n).length = n := by simp [Source.ahead]

/-- Taking answers moves what is still to come. -/
theorem Source.peek_skip {α : Type} (free : Nat → α) (q : Source α) (n k : Nat) :
    (q.skip n).peek free k = q.peek free (n + k) := by
  simp [Source.peek, Source.skip, Nat.add_assoc]

theorem Source.skip_skip {α : Type} (q : Source α) (m n : Nat) : (q.skip m).skip n = q.skip (m + n) := by
  simp [Source.skip, Nat.add_assoc]

theorem Source.ahead_getD {α : Type} (free : Nat → α) (q : Source α) {n k : Nat} (h : k < n) (d : α) :
    (q.ahead free n).getD k d = q.peek free k := by
  simp [Source.ahead, List.getD, h]

/-! ### Frames -/

@[simp] theorem bytesBE_length {w : Nat} (n : Nat) (v : BitVec w) : (bytesBE n v).length = n := by simp [bytesBE]

/-- The chip drives one position per byte sent. -/
theorem Chip.reply_length (c : Chip) (size : Nat) {i : Instr} (h : i.fitsFormat = true) :
    (c.reply size i).length = ((encodeFrame i).getD []).length := by
  cases i <;> simp_all [Chip.reply, encodeFrame, encode, quiet, Instr.fitsFormat] <;> split <;> simp <;> omega

/-- One byte is received per byte sent (R80), whoever answers. -/
theorem State.received_length (s : State) {i : Instr} (h : i.fitsFormat = true) :
    (s.received i ((encodeFrame i).getD []).length).length = ((encodeFrame i).getD []).length := by
  unfold State.received
  cases s.answers <;> simp [Chip.reply_length _ _ h]

theorem State.received_oracle {s : State} (h : s.answers = .oracle) (i : Instr) (n : Nat) :
    s.received i n = s.rx.ahead Config.freeRx n := by
  simp [State.received, h]

/-! ### Outcomes -/

@[simp] theorem onBus_next {s t u : State} : s.onBus t = .next u ↔ s.transportReady = true ∧ t = u := by
  unfold State.onBus
  split <;> simp_all

@[simp] theorem begin_next {s u : State} {go : State → State} :
    s.begin go = .next u ↔ s.inited = true ∧ go s.accept = u := by
  unfold State.begin
  split <;> simp_all

/-- `Wake()` either composes the release frame or goes on (R123). -/
theorem wakeThen_cases (s : State) (go : State → State) :
    (s.poweredDown = true ∧ s.wakeThen go = s.post .releasePowerDown) ∨
    (s.poweredDown = false ∧ s.wakeThen go = go s) := by
  unfold State.wakeThen
  cases h : s.poweredDown <;> simp

/-- Everything a point of `Wait()` can do (R148). -/
theorem waitStep_cases (s : State) (at_ : WaitPoint → Seq) (done : Result → State → State) (w : WaitPoint) :
    (s.poweredDown = true ∧ (w = .start ∨ w = .poll) ∧ s.waitStep at_ done w = s.post .releasePowerDown) ∨
    (s.poweredDown = false ∧ w = .start ∧ s.waitStep at_ done w = s.markStart.goto (at_ .poll)) ∨
    (s.poweredDown = false ∧ w = .poll ∧ s.waitStep at_ done w = s.postPoll.goto (at_ .test)) ∨
    (w = .test ∧ busyBit s.st = true ∧ s.waitStep at_ done w = s.goto (at_ .time)) ∨
    (w = .test ∧ busyBit s.st = false ∧ s.waitStep at_ done w = done .success s) ∨
    (w = .time ∧ timedOut s.t0 s.readClock.clock = true ∧ s.waitStep at_ done w = done .timeout s.readClock) ∨
    (w = .time ∧ timedOut s.t0 s.readClock.clock = false ∧ s.waitStep at_ done w = s.readClock.goto (at_ .poll)) := by
  cases w with
  | start => cases h : s.poweredDown <;> simp [State.waitStep, State.wakeThen, h]
  | poll => cases h : s.poweredDown <;> simp [State.waitStep, State.wakeThen, h]
  | test => cases h : busyBit s.st <;> simp [State.waitStep, h]
  | time => cases h : timedOut s.t0 s.readClock.clock <;> simp_all [State.waitStep]

end Sys2Proof.Machine
end

