-- ==== Sys2Proof/Laws/PerInstr.lean ====
section
/-! SUPPORT. Per instruction: on which of the two levels of R3 it is encoded, and that a wire command's frame is not
empty (R80). -/

namespace Sys2Proof.Laws.Level

/-- A wire command is encoded as a frame of at least one byte, a host operation as a request. -/
def Statement (i : Instr) : Prop :=
  match encode i with
  | .frame bytes => i.isOperation = false ∧ bytes ≠ [] ∧ encodeFrame i = some bytes
  | .request _ => i.isOperation = true ∧ encodeFrame i = none

theorem writeStatusRegister (v : Byte) : Statement (.writeStatusRegister v) := ⟨rfl, List.cons_ne_nil _ _, rfl⟩
theorem pageProgram (a : FlashAddr) (p : List Byte) : Statement (.pageProgram a p) :=
  ⟨rfl, List.cons_ne_nil _ _, rfl⟩
theorem readData (a : FlashAddr) (xs : List Byte) : Statement (.readData a xs) := ⟨rfl, List.cons_ne_nil _ _, rfl⟩
theorem readStatusRegister (x : Byte) : Statement (.readStatusRegister x) := ⟨rfl, List.cons_ne_nil _ _, rfl⟩
theorem writeEnable : Statement .writeEnable := ⟨rfl, List.cons_ne_nil _ _, rfl⟩
theorem sectorErase4k (a : FlashAddr) : Statement (.sectorErase4k a) := ⟨rfl, List.cons_ne_nil _ _, rfl⟩
theorem readUniqueId (xs : List Byte) : Statement (.readUniqueId xs) := ⟨rfl, List.cons_ne_nil _ _, rfl⟩
theorem blockErase32k (a : FlashAddr) : Statement (.blockErase32k a) := ⟨rfl, List.cons_ne_nil _ _, rfl⟩
theorem releasePowerDown : Statement .releasePowerDown := ⟨rfl, List.cons_ne_nil _ _, rfl⟩
theorem powerDown : Statement .powerDown := ⟨rfl, List.cons_ne_nil _ _, rfl⟩
theorem jedecId (xs : List Byte) : Statement (.jedecId xs) := ⟨rfl, List.cons_ne_nil _ _, rfl⟩
theorem init : Statement .init := ⟨rfl, rfl⟩
theorem sleep : Statement .sleep := ⟨rfl, rfl⟩
theorem wait : Statement .wait := ⟨rfl, rfl⟩
theorem getStatus : Statement .getStatus := ⟨rfl, rfl⟩
theorem setStatus (v : Byte) : Statement (.setStatus v) := ⟨rfl, rfl⟩
theorem erase (o n : Operand) : Statement (.erase o n) := ⟨rfl, rfl⟩
theorem write (d : Option (List Byte)) (o n : Operand) : Statement (.write d o n) := ⟨rfl, rfl⟩
theorem read (o n : Operand) : Statement (.read o n) := ⟨rfl, rfl⟩
theorem getJedecId : Statement .getJedecId := ⟨rfl, rfl⟩
theorem getUniqueId : Statement .getUniqueId := ⟨rfl, rfl⟩

end Sys2Proof.Laws.Level
end

