-- ==== Sys2Proof/Laws/Step.lean ====
section
/-! SUPPORT. What one step can do, said once: the ways `step` answers a next state, everything a wire command does, and
what no host operation touches by itself. -/

namespace Sys2Proof.Machine

/-- The ways a step answers a next state. -/
theorem step_next {s t : State} (h : step s = .next t) :
    (∃ b i, s.frame = some b ∧ decodeFrame b = .ok i ∧ exec i s = .next t) ∨
    (s.frame = none ∧ s.seq = .idle ∧ s.requests = [] ∧ t = s) ∨
    (∃ r rest i, s.frame = none ∧ s.seq = .idle ∧ s.requests = r :: rest ∧ decodeRequest r = .ok i ∧
      exec i { s with requests := rest, req := some r } = .next t) ∨
    (∃ r i, s.frame = none ∧ s.seq ≠ .idle ∧ s.req = some r ∧ decodeRequest r = .ok i ∧ exec i s = .next t) := by
  unfold step State.fetch at h
  cases hf : s.frame with
  | some b =>
    cases hd : decodeFrame b with
    | ok i => exact .inl ⟨b, i, rfl, hd, by simpa [hf, hd] using h⟩
    | error e => simp [hf, hd] at h
  | none =>
    by_cases hs : s.seq = .idle
    · cases hq : s.requests with
      | nil => exact .inr (.inl ⟨rfl, hs, rfl, by simpa [hf, hs, hq, eq_comm] using h⟩)
      | cons r rest =>
        cases hd : decodeRequest r with
        | ok i => exact .inr (.inr (.inl ⟨r, rest, i, rfl, hs, rfl, hd, by simpa [hf, hs, hq, hd] using h⟩))
        | error e => simp [hf, hs, hq, hd] at h
    · cases hr : s.req with
      | none => simp [hf, hr] at h
      | some r =>
        cases hd : decodeRequest r with
        | ok i =>
          refine .inr (.inr (.inr ⟨r, i, rfl, hs, rfl, hd, ?_⟩))
          simpa [hf, hr, hd] using h
        | error e => simp [hf, hr, hd] at h

/-- `poweredDown` after the frame of a command (R121, R123, R126). -/
def powerAfter : Instr → Bool → Bool
  | .releasePowerDown, _ => false
  | .powerDown, _ => true
  | _, pd => pd

/-- `st` after the frame of a command (R146). -/
def statusAfter : Instr → List Byte → Byte → Byte
  | .readStatusRegister _, miso, _ => miso.getD 1 0
  | _, _, st => st

/-- Everything a wire command does: it needs a configured bus, sends its frame, and moves the power mirror or the status
byte. -/
theorem wire_next {i : Instr} {s t : State} (hi : i.isOperation = false) :
    exec i s = .next t ↔ s.transportReady = true ∧
      t = { s.transmit i with
        poweredDown := powerAfter i s.poweredDown, st := statusAfter i (s.transmit i).miso s.st } := by
  cases i <;> simp only [Instr.isOperation, reduceCtorEq] at hi <;>
    simp only [exec, execWriteStatusRegister, execPageProgram, execReadData, execReadStatusRegister, execWriteEnable,
      execSectorErase4k, execReadUniqueId, execBlockErase32k, execReleasePowerDown, execPowerDown, execJedecId, onBus_next,
      State.transferByte, State.transferBulk, State.transferRegister, powerAfter, statusAfter] <;>
    exact and_congr_right fun _ => ⟨fun h => h.symm, fun h => h.symm⟩

/-- The fields no host operation writes: it composes frames and reads the clock, and the frames do the rest. -/
def KeepsBus (s t : State) : Prop :=
  t.flashSize = s.flashSize ∧ t.poweredDown = s.poweredDown ∧ t.st = s.st ∧ t.miso = s.miso ∧ t.req = s.req ∧
  t.requests = s.requests ∧ t.answers = s.answers ∧ t.rx = s.rx ∧ t.cycles = s.cycles ∧ t.chip = s.chip

theorem waitStep_keepsBus {s u : State} {at_ : WaitPoint → Seq} {done : Result → State → State} {w : WaitPoint}
    (hdone : ∀ r v, KeepsBus v (done r v)) (h : s.waitStep at_ done w = u) : KeepsBus s u := by
  subst h
  rcases waitStep_cases s at_ done w with h | h | h | h | h | h | h <;> obtain ⟨-, -, h⟩ := h <;> rw [h]
  case inr.inr.inr.inr.inl => exact hdone _ _
  case inr.inr.inr.inr.inr.inl => exact hdone _ s.readClock
  all_goals simp [KeepsBus]

theorem operation_keepsBus {i : Instr} {s t : State} (hi : i.isOperation = true) (h : exec i s = .next t) :
    KeepsBus s t := by
  have answer : ∀ (r : Result) (v : State), KeepsBus v (v.answer r) := fun r v => by simp [KeepsBus]
  have unit : ∀ (u : EraseSize) (r : Result) (v : State), KeepsBus v (eraseUnitDone u r v) := fun u r v => by
    cases r <;> simp [KeepsBus, eraseUnitDone]
  have chunk : ∀ (r : Result) (v : State), KeepsBus v (writeChunkReady r v) := fun r v => by
    cases r <;> simp [KeepsBus, writeChunkReady]
  cases i <;> simp only [Instr.isOperation, reduceCtorEq] at hi <;>
    simp only [exec, execInit, execSleep, execWait, execGetStatus, execSetStatus, execErase, execWrite, execRead,
      execGetJedecId, execGetUniqueId] at h <;>
    split at h <;> simp only [begin_next, Host.Outcome.next.injEq, reduceCtorEq] at h
  all_goals first
    | exact waitStep_keepsBus answer h
    | exact waitStep_keepsBus (unit _) h
    | exact waitStep_keepsBus chunk h
    | (first | subst h | (obtain ⟨-, rfl⟩ := h)
       try simp only [State.wakeThen]
       repeat' split
       all_goals simp [KeepsBus])

end Sys2Proof.Machine
end

