-- ==== Sys2Proof/Tests/Slice0.lean ====
section
/-! SUPPORT. The author's own tests: ill-formed terms that WellFormed refuses, words written out from the spec's encodings,
small one-step tests with expected values from the spec, and a witness for the hypotheses of every statement. -/

namespace Sys2Proof.Tests

open Sys2Proof Sys2Proof.Machine

/-! ### WellFormed refuses -/

theorem smoke_program_empty : (Instr.pageProgram 0 []).wellFormed = false := by decide
theorem smoke_program_crosses : (Instr.pageProgram 0x0000FF#24 [1#8, 2#8]).wellFormed = false := by decide
theorem smoke_program_too_long : (Instr.pageProgram 0 (List.replicate 257 0#8)).wellFormed = false := by
  decide +kernel
theorem smoke_sector_misaligned : (Instr.sectorErase4k 0x000800#24).wellFormed = false := by decide
theorem smoke_block_misaligned : (Instr.blockErase32k 0x001000#24).wellFormed = false := by decide
theorem smoke_jedec_slots : (Instr.jedecId [0#8, 0#8]).wellFormed = false := by decide
theorem smoke_unique_slots : (Instr.readUniqueId [0#8]).wellFormed = false := by decide
theorem smoke_write_length : (Instr.write (some [1#8]) 0 2#32).wellFormed = false := by decide

/-! ### Decoding, from 30_encoding.md section 4 and the table of R87 -/

theorem decode_write_status : decode (.frame [0x01#8, 0x1C#8]) = .ok (.writeStatusRegister 0x1C#8) := by decide
theorem decode_page_program :
    decode (.frame [0x02#8, 0x00#8, 0x00#8, 0xFA#8, 0x11#8]) = .ok (.pageProgram 250#24 [0x11#8]) := by decide
theorem decode_read_data : decode (.frame [0x03#8, 0x0F#8, 0xFF#8, 0xFF#8]) = .ok (.readData 0x0FFFFF#24 []) := by decide
theorem decode_read_status : decode (.frame [0x05#8, 0x00#8]) = .ok (.readStatusRegister 0x00#8) := by decide
theorem decode_write_enable : decode (.frame [0x06#8]) = .ok .writeEnable := by decide
theorem decode_sector_erase :
    decode (.frame [0x20#8, 0x00#8, 0x90#8, 0x00#8]) = .ok (.sectorErase4k 0x009000#24) := by decide
theorem decode_read_unique :
    decode (.frame (0x4B#8 :: List.replicate 12 0#8)) = .ok (.readUniqueId (List.replicate 12 0#8)) := by decide
theorem decode_block_erase :
    decode (.frame [0x52#8, 0x01#8, 0x80#8, 0x00#8]) = .ok (.blockErase32k 0x018000#24) := by decide
theorem decode_release : decode (.frame [0xAB#8]) = .ok .releasePowerDown := by decide
theorem decode_power_down : decode (.frame [0xB9#8]) = .ok .powerDown := by decide
theorem decode_jedec : decode (.frame [0x9F#8, 1#8, 2#8, 3#8]) = .ok (.jedecId [1#8, 2#8, 3#8]) := by decide
theorem decode_init : decode (.request (plainRequest 0)) = .ok .init := by decide
theorem decode_sleep : decode (.request (plainRequest 1)) = .ok .sleep := by decide
theorem decode_wait : decode (.request (plainRequest 2)) = .ok .wait := by decide
theorem decode_get_status : decode (.request (plainRequest 3)) = .ok .getStatus := by decide
theorem decode_set_status : decode (.request ⟨4, 0, 0, 0x1C#8, none⟩) = .ok (.setStatus 0x1C#8) := by decide
theorem decode_erase : decode (.request ⟨5, 0x1000, 0x2000, 0, none⟩) = .ok (.erase 0x1000 0x2000) := by decide
theorem decode_write :
    decode (.request ⟨6, 7, 2, 0, some [1#8, 2#8]⟩) = .ok (.write (some [1#8, 2#8]) 7 2) := by decide
theorem decode_write_absent : decode (.request ⟨6, 7, 2, 0, none⟩) = .ok (.write none 7 2) := by decide
theorem decode_read : decode (.request ⟨7, 5, 9, 0, none⟩) = .ok (.read 5 9) := by decide
theorem decode_get_jedec : decode (.request (plainRequest 8)) = .ok .getJedecId := by decide
theorem decode_get_unique : decode (.request (plainRequest 9)) = .ok .getUniqueId := by decide

theorem reject_empty_frame : decode (.frame []) = .error .emptyFrame := by decide
theorem reject_foreign : decode (.frame [0xC7#8]) = .error .unknownOpcode := by decide
theorem reject_short_erase : decode (.frame [0x20#8, 0#8, 0#8]) = .error .badLength := by decide
theorem reject_long_release : decode (.frame [0xAB#8, 0#8]) = .error .badLength := by decide
theorem reject_empty_program : decode (.frame [0x02#8, 0#8, 0#8, 0#8]) = .error .badLength := by decide
theorem reject_long_program :
    decode (.frame (0x02#8 :: 0#8 :: 0#8 :: 0#8 :: List.replicate 257 0#8)) = .error .badLength := by decide +kernel
/-- R89: decoding depends on byte 0 and the length only, not on the address. -/
theorem decode_misaligned_erase :
    decode (.frame [0x20#8, 0#8, 8#8, 0#8]) = .ok (.sectorErase4k 0x000800#24) := by decide
theorem decode_crossing_program :
    decode (.frame [0x02#8, 0#8, 0#8, 0xFF#8, 1#8, 2#8]) = .ok (.pageProgram 0x0000FF#24 [1#8, 2#8]) := by decide
theorem reject_code_fifteen : decode (.request (plainRequest 15)) = .error .reservedOperation := by decide
theorem reject_data_length : decode (.request ⟨6, 0, 3, 0, some [1#8]⟩) = .error .dataLength := by decide

theorem table_word_request : decodeTableWord 8 0x05 = some (.erase 0 0) := by decide
theorem table_word_frame : decodeTableWord 8 0x20 = some (.sectorErase4k 0) := by decide
theorem table_word_two_bytes : decodeTableWord 16 0x1C01 = some (.writeStatusRegister 0x1C#8) := by decide

/-! ### A small machine -/

/-- An awake, initialised machine with FLASH_SIZE 0x100000 and nothing to do; the transport answers 0xF0, 0xF1, 0xF2, ...
and the clock first answers 1000, then every 400 ticks. -/
def bench : State where
  flashSize := 0x100000
  poweredDown := false
  inited := true
  transportReady := true
  seq := .idle
  req := none
  resp := none
  cur := 0
  rem := 0
  chunk := 0
  idx := 0
  t0 := 0
  st := 0
  miso := []
  frame := none
  requests := []
  responses := []
  trace := []
  answers := .oracle
  rx := ⟨(List.range 16).map fun k => BitVec.ofNat 8 (0xF0 + k), 0⟩
  fill := ⟨List.replicate 12 0x55#8, 0⟩
  ticks := ⟨[1000, 400, 400, 400], 0⟩
  clock := 0
  cycles := ⟨[0], 0⟩
  chip := { array := [(0x100, 0x0F#8)], wel := true, busyFor := 0, asleep := false, sr := 0, srMask := 0xFC#8,
            jedec := 0xEF4014#24, uid := 0x0102030405060708#64 }

/-- The machine with request `r` in REQ. -/
def holding (r : Request) : State := { bench with req := some r }

/-- A test of the next state; false on a stop. -/
def after (o : Out) (f : State → Bool) : Bool :=
  match o with
  | .next t => f t
  | .fault _ => false
  | .refused _ => false

/-- The refusal, if the outcome is one. -/
def refusal (o : Out) : Option Refusal :=
  match o with
  | .refused r => some r
  | .next _ => none
  | .fault _ => none

/-- Where `n` steps after `exec i` lead (the state itself on a stop). -/
def ended (i : Instr) (s : State) (n : Nat) : State :=
  match exec i s with
  | .next t =>
    match steps n t with
    | .next u => u
    | .fault _ => s
    | .refused _ => s
  | .fault _ => s
  | .refused _ => s

theorem completes_ended {i : Instr} {s : State} {n : Nat}
    (h : (after (exec i s) fun t => after (steps n t) fun _ => true) = true) : Completes i s (ended i s n) := by
  unfold ended
  unfold after at h
  split at h
  · next t ht =>
    refine ⟨t, ht, n, ?_⟩
    rw [ht]
    dsimp only at h ⊢
    split at h
    · next u hu => rw [hu]
    · simp at h
    · simp at h
  · simp at h
  · simp at h

theorem exists_next {o : Out} (h : (after o fun _ => true) = true) : ∃ t, o = .next t := by
  unfold after at h
  split at h
  · exact ⟨_, rfl⟩
  · simp at h
  · simp at h

/-! ### One step of each instruction (expected values from the worked examples of 40 to 45) -/

theorem test_write_enable :
    (after (exec .writeEnable bench) fun t => decide (t.trace = [.frame [0x06#8] [0xF0#8]]) && t.chip.wel) = true := by
  decide
theorem test_write_status_register :
    (after (exec (.writeStatusRegister 0x1C#8) bench) fun t =>
      decide (t.trace = [.frame [0x01#8, 0x1C#8] [0xF0#8, 0xF1#8]]) && decide (t.st = 0#8)) = true := by decide
theorem test_page_program :
    (after (exec (.pageProgram 0x000100#24 [0x3C#8, 0x77#8]) bench) fun t =>
      decide (t.trace.map (fun e => match e with | .frame m _ => m | .busInit => [] | .now _ => []) =
        [[0x02#8, 0x00#8, 0x01#8, 0x00#8, 0x3C#8, 0x77#8]]) &&
      decide (t.chip.array = [(0x100, 0x0C#8), (0x101, 0x77#8)])) = true := by decide
theorem test_read_data :
    (after (exec (.readData 0x0000FE#24 [0x55#8]) bench) fun t =>
      decide (t.trace = [.frame [0x03#8, 0x00#8, 0x00#8, 0xFE#8, 0x55#8] [0xF0#8, 0xF1#8, 0xF2#8, 0xF3#8, 0xF4#8]])) =
      true := by decide
theorem test_read_data_of_chip :
    (after (exec (.readData 0x0000FF#24 [0#8, 0#8]) { bench with answers := .chip }) fun t =>
      decide (t.miso.drop 4 = [0xFF#8, 0x0F#8])) = true := by decide
theorem test_read_status_register :
    (after (exec (.readStatusRegister 0x55#8) bench) fun t => decide (t.st = 0xF1#8) && decide (t.miso.length = 2)) =
      true := by decide
theorem test_read_status_of_chip :
    (after (exec (.readStatusRegister 0#8) { bench with answers := .chip, chip := { bench.chip with busyFor := 2 } })
      fun t => decide (t.st = 0x03#8)) = true := by decide
theorem test_sector_erase :
    (after (exec (.sectorErase4k 0#24) bench) fun t => decide (t.chip.array = [])) = true := by decide
theorem test_block_erase_elsewhere :
    (after (exec (.blockErase32k 0x018000#24) bench) fun t => decide (t.chip.array = [(0x100, 0x0F#8)])) = true := by
  decide
theorem test_release_power_down :
    (after (exec .releasePowerDown { bench with poweredDown := true }) fun t =>
      decide (t.trace = [.frame [0xAB#8] [0xF0#8]]) && !t.poweredDown) = true := by decide
theorem test_power_down :
    (after (exec .powerDown bench) fun t => decide (t.trace = [.frame [0xB9#8] [0xF0#8]]) && t.poweredDown) = true := by
  decide
theorem test_jedec_of_chip :
    (after (exec (.jedecId [0#8, 0#8, 0#8]) { bench with answers := .chip }) fun t =>
      decide (t.miso.drop 1 = [0xEF#8, 0x40#8, 0x14#8])) = true := by decide
theorem test_unique_of_chip :
    (after (exec (.readUniqueId (List.replicate 12 0#8)) { bench with answers := .chip }) fun t =>
      decide (t.miso.drop 5 = [1#8, 2#8, 3#8, 4#8, 5#8, 6#8, 7#8, 8#8])) = true := by decide
theorem test_init_configures :
    (after (exec .init { bench with seq := .init .config, transportReady := false }) fun t =>
      decide (t.trace = [.busInit]) && t.transportReady && decide (t.seq = .init .wake)) = true := by decide
theorem test_sleep_asleep :
    (after (exec .sleep { bench with poweredDown := true }) fun t =>
      decide (t.trace = []) && decide (t.resp = some ⟨.success, none, none⟩)) = true := by decide
theorem test_wait_at_800 :
    (after (exec .wait { bench with seq := .wait .time, t0 := 200, st := 1 }) fun t =>
      decide (t.seq = .wait .poll) && decide (t.trace = [.now 1000])) = true := by decide
theorem test_wait_at_801 :
    (after (exec .wait { bench with seq := .wait .time, t0 := 199, st := 1 }) fun t =>
      decide (t.resp = some ⟨.timeout, none, none⟩) && decide (t.seq = .idle)) = true := by decide
theorem test_get_status_value :
    (after (exec .getStatus { bench with seq := .getStatus .finish, st := 0xFE#8 }) fun t =>
      decide (t.resp = some ⟨.success, some 0xFE#64, none⟩)) = true := by decide
theorem test_set_status_frame :
    (after (exec (.setStatus 0x1C#8) { bench with seq := .setStatus .cmd }) fun t =>
      decide (t.frame = some [0x01#8, 0x1C#8])) = true := by decide
theorem test_erase_at_the_end :
    (after (exec (.erase 0x100000 0) bench) fun t => decide (t.seq = .erase .wake) && decide (t.resp = none)) = true := by
  decide
theorem test_erase_misaligned :
    (after (exec (.erase 0x800 0x1000) bench) fun t => decide (t.resp = some ⟨.inputValue, none, none⟩)) = true := by
  decide
theorem test_write_chunk :
    (after (exec (.write (some []) 0 0) { bench with seq := .write .chunks, cur := 0xFA, rem := 20 }) fun t =>
      decide (t.chunk = 6) && decide (t.seq = .write (.waitChunk .start))) = true := by decide
theorem test_write_absent :
    (after (exec (.write none 0 0) bench) fun t => decide (t.resp = some ⟨.inputValue, none, none⟩)) = true := by decide
theorem test_read_payload :
    (after (exec (.read 5 2) { bench with seq := .read .finish, miso := [1#8, 2#8, 3#8, 4#8, 5#8, 6#8] }) fun t =>
      decide (t.resp = some ⟨.success, none, some [5#8, 6#8]⟩)) = true := by decide
theorem test_read_wraps_at_24_bits :
    (after (exec (.read 0x1000000 0) { bench with seq := .read .cmd }) fun t =>
      decide (t.frame = some [0x03#8, 0#8, 0#8, 0#8])) = true := by decide
theorem test_jedec_value :
    (after (exec .getJedecId { bench with seq := .getJedecId .finish, miso := [9#8, 0xEF#8, 0x40#8, 0x14#8] }) fun t =>
      decide (t.resp = some ⟨.success, some 0xEF4014#64, none⟩)) = true := by decide
theorem test_unique_value :
    (after (exec .getUniqueId { bench with
        seq := .getUniqueId .finish
        miso := [9#8, 9#8, 9#8, 9#8, 9#8, 0xD2#8, 1#8, 2#8, 3#8, 4#8, 5#8, 6#8, 7#8] }) fun t =>
      decide (t.resp = some ⟨.success, some 0xD201020304050607#64, none⟩)) = true := by decide

/-- The first step after placing a table word runs the row's instruction. -/
theorem test_with_fetch_word :
    (after (step (bench.withFetchWord 8 0xB9)) fun t => t.poweredDown) = true := by decide
theorem test_with_fetch_word_request :
    (after (step ({ bench with inited := false }.withFetchWord 8 0x07)) fun t => decide (t.seq = .read .wake)) = true := by
  decide
theorem test_reset_then_init :
    (after (step (State.reset.withFetchWord 8 0x00)) fun t => decide (t.seq = .init .config)) = true := by decide

/-! ### Witnesses: for every statement with hypotheses, states and operands that meet them -/

theorem witness_well_formed :
    (Instr.pageProgram 0x0000FE#24 [1#8, 2#8]).wellFormed = true ∧ (Instr.blockErase32k 0xFF8000#24).wellFormed = true ∧
    (Instr.write (some [1#8]) 0 1).wellFormed = true ∧ (Instr.sectorErase4k 0x000800#24).fitsFormat = true := by decide
theorem witness_decoded_frame : decodeFrame [0x52#8, 0x01#8, 0x80#8, 0x00#8] = .ok (.blockErase32k 0x018000#24) := by
  decide
theorem witness_foreign_opcode : (0xC7#8 : Byte) ∉
    [0x01#8, 0x02#8, 0x03#8, 0x05#8, 0x06#8, 0x20#8, 0x4B#8, 0x52#8, 0xAB#8, 0xB9#8, 0x9F#8] := by decide

/-- The machine with `r` as the host's next request. -/
def asked (r : Request) : State := { bench with requests := [r] }

theorem witness_reserved_request (r : Request) :
    (asked r).frame = none ∧ (asked r).seq = .idle ∧ (asked r).requests = r :: [] := ⟨rfl, rfl, rfl⟩
theorem witness_reserved_codes : 10 ≤ (plainRequest 10).op.toNat ∧ 10 ≤ (plainRequest 15).op.toNat := by decide
theorem witness_data_length :
    (⟨6, 0, 2, 0, some [1#8]⟩ : Request).op = 6#4 ∧ (⟨6, 0, 2, 0, some [1#8]⟩ : Request).data = some [1#8] ∧
    [1#8].length ≠ (⟨6, 0, 2, 0, some [1#8]⟩ : Request).length.toNat := by decide

theorem witness_step_frame :
    { bench with frame := some [0x06#8] }.frame = some [0x06#8] ∧ decodeFrame [0x06#8] = .ok .writeEnable := by decide
theorem witness_step_request :
    (asked (plainRequest 2)).frame = none ∧ (asked (plainRequest 2)).seq = .idle ∧
    (asked (plainRequest 2)).requests = plainRequest 2 :: [] ∧ decodeRequest (plainRequest 2) = .ok .wait := by decide
theorem witness_step_running :
    { holding (plainRequest 2) with seq := .wait .poll }.frame = none ∧
    { holding (plainRequest 2) with seq := .wait .poll }.seq ≠ .idle ∧
    { holding (plainRequest 2) with seq := .wait .poll }.req = some (plainRequest 2) ∧
    decodeRequest (plainRequest 2) = .ok .wait := by decide
theorem witness_step_idle : bench.frame = none ∧ bench.seq = .idle ∧ bench.requests = [] := by decide

theorem witness_before_init :
    Instr.sleep.isOperation = true ∧ Instr.sleep ≠ .init ∧ { bench with inited := false }.seq = .idle ∧
    { bench with inited := false }.inited = false := by decide
theorem witness_busy_wait :
    { bench with seq := .wait .poll }.seq ≠ .idle ∧ (∀ k, { bench with seq := .wait .poll }.seq ≠ .init k) ∧
    (∀ k, { bench with seq := .wait .poll }.seq ≠ .sleep k) ∧
    (∀ k, { bench with seq := .wait .poll }.seq ≠ .getStatus k) ∧
    (∀ k, { bench with seq := .wait .poll }.seq ≠ .setStatus k) ∧
    (∀ k, { bench with seq := .wait .poll }.seq ≠ .erase k) ∧ (∀ k, { bench with seq := .wait .poll }.seq ≠ .write k) ∧
    (∀ k, { bench with seq := .wait .poll }.seq ≠ .read k) ∧
    (∀ k, { bench with seq := .wait .poll }.seq ≠ .getJedecId k) ∧
    (∀ k, { bench with seq := .wait .poll }.seq ≠ .getUniqueId k) := by
  refine ⟨?_, ?_, ?_, ?_, ?_, ?_, ?_, ?_, ?_, ?_⟩ <;> simp
theorem witness_busy_init :
    { bench with seq := .init .wake }.seq ≠ .idle ∧ (∀ k, { bench with seq := .init .wake }.seq ≠ .wait k) := by
  constructor <;> simp

theorem witness_bus : bench.transportReady = true ∧ [1#8, 2#8, 3#8].length = 3 ∧ (List.replicate 12 0#8).length = 12 := by
  decide
theorem witness_no_bus :
    Instr.writeEnable.isOperation = false ∧ { bench with transportReady := false }.transportReady = false := by decide

theorem bench_array_canonical : bench.chip.array.wf := by simp [Memory.wf, bench, erasedByte]
theorem witness_program :
    bench.transportReady = true ∧ (Instr.pageProgram 0x000100#24 [0x3C#8]).wellFormed = true ∧ bench.chip.array.wf ∧
    bench.chip.listens = true ∧ bench.chip.wel = true :=
  ⟨by decide, by decide, bench_array_canonical, by decide, by decide⟩
theorem witness_erase_units : (0x001000#24 : FlashAddr).toNat % 4096 = 0 ∧ (0x008000#24 : FlashAddr).toNat % 32768 = 0 := by
  decide
theorem witness_array_kept_other : (after (exec .writeEnable bench) fun _ => true) = true ∧
    (∀ a p, Instr.writeEnable ≠ .pageProgram a p) ∧ (∀ a, Instr.writeEnable ≠ .sectorErase4k a) ∧
    (∀ a, Instr.writeEnable ≠ .blockErase32k a) := ⟨by decide, by simp, by simp, by simp⟩
theorem witness_array_kept_deaf :
    (after (exec (.sectorErase4k 0) { bench with chip := { bench.chip with busyFor := 1 } }) fun _ => true) = true ∧
    { bench with chip := { bench.chip with busyFor := 1 } }.chip.listens = false ∧
    { bench with chip := { bench.chip with wel := false } }.chip.wel = false := by decide
theorem witness_chip_answers :
    { bench with answers := .chip }.answers = .chip ∧ { bench with answers := .chip }.chip.listens = true ∧
    { bench with answers := .chip }.transportReady = true := by decide

/-- The bench with an erased array, the reference chip answering, and a next cycle of two frames. -/
def blank : State := { bench with answers := .chip, chip := { bench.chip with array := [] }, cycles := ⟨[2], 0⟩ }

theorem witness_program_then_read :
    blank.transportReady = true ∧ blank.answers = .chip ∧ blank.chip.array.wf ∧ blank.chip.listens = true ∧
    blank.chip.wel = true ∧ blank.cycles.peek Config.freeCycle 0 ≤ [7#8, 9#8].length ∧
    (Instr.pageProgram 0x0FFFFE#24 [0x3C#8, 0x77#8]).wellFormed = true ∧
    (0x0FFFFE#24 : FlashAddr).toNat + [0x3C#8, 0x77#8].length ≤ blank.flashSize ∧
    [0#8, 0#8].length = [0x3C#8, 0x77#8].length ∧
    (∀ b, (0x0FFFFE#24 : FlashAddr).toNat ≤ b → b < (0x0FFFFE#24 : FlashAddr).toNat + [0x3C#8, 0x77#8].length →
      Memory.read blank.chip.array b = 0xFF#8) :=
  ⟨by decide, by decide, by simp [Memory.wf, blank], by decide, by decide, by decide, by decide, by decide, by decide,
    fun _ _ _ => rfl⟩
theorem witness_step_keeps_array :
    { bench with frame := some [0x20#8, 0#8, 0#8, 0#8] }.chip.array.wf ∧
    ∃ t, step { bench with frame := some [0x20#8, 0#8, 0#8, 0#8] } = .next t :=
  ⟨bench_array_canonical, exists_next (by decide)⟩
theorem witness_oracle : bench.answers = .oracle ∧ (∃ t, step { bench with frame := some [0x06#8] } = .next t) ∧
    (∃ f, step { bench with frame := some [0x06#8], transportReady := false } = .fault f) ∧
    (∃ r, step (asked (plainRequest 12)) = .refused r) :=
  ⟨by decide, exists_next (by decide), ⟨.busNotConfigured, rfl⟩, ⟨.illegalRequest .reservedOperation, rfl⟩⟩

/-! Power states -/

theorem witness_init : Presented .init { holding (plainRequest 0) with inited := false, transportReady := false } :=
  ⟨rfl, rfl, plainRequest 0, rfl, rfl⟩
theorem witness_sleep : Ready .sleep (holding (plainRequest 1)) ∧ (holding (plainRequest 1)).poweredDown = false ∧
    Ready .sleep { holding (plainRequest 1) with poweredDown := true } :=
  ⟨⟨⟨rfl, rfl, _, rfl, rfl⟩, rfl, rfl⟩, rfl, ⟨⟨rfl, rfl, _, rfl, rfl⟩, rfl, rfl⟩⟩
theorem witness_accepted : bench.seq = .idle ∧ bench.inited = true := by decide
theorem witness_wake_points :
    ({ bench with seq := .wait .start }.frame = none ∧ { bench with seq := .wait .start }.seq = .wait .start) ∧
    { bench with seq := .getStatus .poll, poweredDown := true }.seq = .getStatus .poll ∧
    { bench with seq := .setStatus .wake, poweredDown := true }.seq = .setStatus .wake ∧
    { bench with seq := .erase .wake, poweredDown := true }.seq = .erase .wake ∧
    { bench with seq := .write .wake, poweredDown := true }.seq = .write .wake ∧
    { bench with seq := .read .wake, poweredDown := true }.seq = .read .wake ∧
    { bench with seq := .getJedecId .wake, poweredDown := true }.seq = .getJedecId .wake ∧
    { bench with seq := .getUniqueId .wake, poweredDown := true }.seq = .getUniqueId .wake ∧
    { bench with seq := .getUniqueId .wake, poweredDown := true }.transportReady = true := by decide

/-- A machine that has sent `[0xB9]` and is about to send `[0xAB]`. -/
def waking : State :=
  { holding (plainRequest 3) with
    poweredDown := true, seq := .getStatus .poll, frame := some [0xAB#8], trace := [.frame [0xB9#8] [0#8]] }

theorem witness_power_mirror : PowerMirror waking ∧ waking.inited = true ∧ ∃ t, step waking = .next t :=
  ⟨⟨by decide, by decide, by decide⟩, rfl, exists_next (by decide)⟩
theorem witness_power_flag :
    (after (step waking) fun t => decide (t.poweredDown ≠ waking.poweredDown)) = true ∧
    (after (step { bench with frame := some [0xB9#8] }) fun t => t.poweredDown) = true := by decide

/-! Status and the busy-wait -/

theorem witness_get_status : Ready .getStatus { holding (plainRequest 3) with poweredDown := true } :=
  ⟨⟨rfl, rfl, _, rfl, rfl⟩, rfl, rfl⟩
theorem witness_wait_places :
    WaitPlace.wait.belongs .wait = true ∧ WaitPlace.setStatus.belongs (.setStatus 0) = true ∧
    (WaitPlace.eraseUnit .block).belongs (.erase 0 0) = true ∧ WaitPlace.writeChunk.belongs (.write none 0 0) = true ∧
    WaitPlace.writeLast.belongs (.write none 0 0) = true ∧ bench.frame = none := by decide
/-- The bench at a point of WAIT's busy-wait. -/
def atPoint (w : WaitPoint) : State := { bench with seq := .wait w }

theorem witness_wait_points :
    ((atPoint .start).seq = WaitPlace.wait.at_ .start ∧ { atPoint .start with poweredDown := true }.poweredDown = true) ∧
    ((atPoint .start).seq = WaitPlace.wait.at_ .start ∧ (atPoint .start).poweredDown = false) ∧
    ((atPoint .poll).seq = WaitPlace.wait.at_ .poll ∧ (atPoint .poll).poweredDown = false) ∧
    ((atPoint .test).seq = WaitPlace.wait.at_ .test ∧ (atPoint .test).st.getLsbD 0 = false) ∧
    ({ atPoint .test with st := 1#8 }.seq = WaitPlace.wait.at_ .test ∧
      { atPoint .test with st := 1#8 }.st.getLsbD 0 = true) := by decide
theorem witness_wait_times :
    ({ bench with seq := .write (.waitLast .time), t0 := 200 }.seq = WaitPlace.writeLast.at_ .time ∧
      tickAt { bench with seq := .write (.waitLast .time), t0 := 200 } 0 - 200 ≤ 800) ∧
    ({ bench with seq := .write (.waitLast .time), t0 := 199 }.seq = WaitPlace.writeLast.at_ .time ∧
      tickAt { bench with seq := .write (.waitLast .time), t0 := 199 } 0 - 199 > 800) := by decide

/-- A WAIT whose first poll is busy at 400 ms and whose second is idle, after a wake. -/
def waitingOnce : State :=
  { holding (plainRequest 2) with poweredDown := true, rx := ⟨[0#8, 0#8, 1#8, 0#8, 0xFE#8], 0⟩ }

theorem witness_wait_succeeds : Ready .wait waitingOnce ∧ waitingOnce.answers = .oracle ∧
    (∀ k, k < 1 → pollBusy waitingOnce k = true ∧ tickAt waitingOnce (k + 1) - tickAt waitingOnce 0 ≤ 800) ∧
    pollBusy waitingOnce 1 = false :=
  ⟨⟨⟨rfl, rfl, _, rfl, rfl⟩, rfl, rfl⟩, rfl, by decide, by decide⟩

/-- A WAIT whose polls are busy at 400, 800 and 1200 ms. -/
def waitingLong : State := { holding (plainRequest 2) with rx := ⟨List.replicate 6 1#8, 0⟩ }

theorem witness_wait_times_out : Ready .wait waitingLong ∧ waitingLong.answers = .oracle ∧
    (∀ k, k < 2 → pollBusy waitingLong k = true ∧ tickAt waitingLong (k + 1) - tickAt waitingLong 0 ≤ 800) ∧
    pollBusy waitingLong 2 = true ∧ tickAt waitingLong 3 - tickAt waitingLong 0 > 800 :=
  ⟨⟨⟨rfl, rfl, _, rfl, rfl⟩, rfl, rfl⟩, rfl, by decide, by decide, by decide⟩
theorem witness_wait_ends : Ready .wait waitingLong ∧ waitingLong.answers = .oracle ∧
    ∃ k, pollBusy waitingLong k = false ∨ tickAt waitingLong (k + 1) - tickAt waitingLong 0 > 800 :=
  ⟨witness_wait_times_out.1, rfl, 2, .inr (by decide)⟩
theorem witness_wait_polls_on : Ready .wait waitingLong ∧ waitingLong.answers = .oracle ∧
    (∀ k, k < 2 → pollBusy waitingLong k = true ∧ tickAt waitingLong (k + 1) - tickAt waitingLong 0 ≤ 800) ∧
    ∃ t, exec .wait waitingLong = .next t :=
  ⟨witness_wait_times_out.1, rfl, witness_wait_times_out.2.2.1, exists_next (by decide)⟩

/-- A SET_STATUS of 0x1C whose poll shows idle, with bit 0 set in every other received byte, after a wake. -/
def setting : State :=
  { holding ⟨4, 0, 0, 0x1C#8, none⟩ with poweredDown := true, rx := ⟨[1#8, 1#8, 1#8, 1#8, 1#8, 0xFE#8], 0⟩ }

theorem witness_set_status : Ready (.setStatus 0x1C#8) setting ∧ setting.answers = .oracle ∧
    busyBit (setting.rx.peek Config.freeRx (wakeBytes setting + 4)) = false :=
  ⟨⟨⟨rfl, rfl, _, rfl, rfl⟩, rfl, rfl⟩, rfl, by decide⟩

/-! Input checks, ERASE, WRITE -/

theorem witness_checks : bench.seq = .idle ∧ bench.inited = true ∧
    (0x100000#32 : Operand).toNat + (1#32 : Operand).toNat > bench.flashSize ∧
    (0x100000#32 : Operand).toNat + (0#32 : Operand).toNat ≤ bench.flashSize ∧ (0x800#32 : Operand).toNat % 4096 ≠ 0 ∧
    (0x100000#32 : Operand).toNat % 4096 = 0 ∧ (some [] : Option (List Byte)) ≠ none := by decide
/-- The bench at a point of ERASE. -/
def eraseAt (k : ErasePoint) (cur rem : Nat) : State := { bench with seq := .erase k, cur := cur, rem := rem }

theorem witness_erase_points :
    ((eraseAt .wake 0 0).frame = none ∧ (eraseAt .wake 0 0).seq = .erase .wake ∧
      (eraseAt .wake 0 0).poweredDown = false) ∧
    ((eraseAt .blocks 0x8000 0x8000).seq = .erase .blocks ∧ (eraseAt .blocks 0x8000 0x8000).cur % 32768 = 0 ∧
      32768 ≤ (eraseAt .blocks 0x8000 0x8000).rem) ∧
    ((eraseAt .blocks 0x9000 0x8000).seq = .erase .blocks ∧
      ¬((eraseAt .blocks 0x9000 0x8000).cur % 32768 = 0 ∧ 32768 ≤ (eraseAt .blocks 0x9000 0x8000).rem)) ∧
    ((eraseAt .sectors 0 0x1000).seq = .erase .sectors ∧ 0 < (eraseAt .sectors 0 0x1000).rem) ∧
    ((eraseAt .sectors 0 0).seq = .erase .sectors ∧ (eraseAt .sectors 0 0).rem = 0) ∧
    ((eraseAt (.wen .block) 0x8000 0).seq = .erase (.wen .block) ∧
      (eraseAt (.wen .block) 0x8000 0).cur % EraseSize.block.bytes = 0) ∧
    ((eraseAt (.wen .block) 0x9000 0).seq = .erase (.wen .block) ∧
      (eraseAt (.wen .block) 0x9000 0).cur % EraseSize.block.bytes ≠ 0) ∧
    (eraseAt (.cmd .block) 0 0).seq = .erase (.cmd .block) ∧
    (eraseAt (.cmd .sector) 0 0).seq = .erase (.cmd .sector) := by decide

/-- An ERASE of the last sector whose poll shows idle, with bit 0 set in every other received byte. -/
def erasing : State :=
  { holding ⟨5, 0xFF000, 0x1000, 0, none⟩ with rx := ⟨List.replicate 6 1#8 ++ [0xFE#8], 0⟩ }

theorem witness_erase :
    Ready (.erase 0xFF000 0x1000) erasing ∧
    (0xFF000#32 : Operand).toNat + (0x1000#32 : Operand).toNat ≤ erasing.flashSize ∧
    (0xFF000#32 : Operand).toNat % 4096 = 0 ∧ (0x1000#32 : Operand).toNat % 4096 = 0 ∧
    Completes (.erase 0xFF000 0x1000) erasing (ended (.erase 0xFF000 0x1000) erasing 12) ∧
    Answered erasing (ended (.erase 0xFF000 0x1000) erasing 12) ⟨.success, none, none⟩ :=
  ⟨⟨⟨rfl, rfl, _, rfl, rfl⟩, rfl, rfl⟩, by decide, by decide, by decide, completes_ended (by decide),
    ⟨by decide, by decide, by decide, by decide⟩⟩
theorem witness_erase_idle :
    Ready (.erase 0xFF000 0x1000) erasing ∧ erasing.answers = .oracle ∧
    ∀ j, j < (eraseLayout (0xFF000#32 : Operand).toNat (0x1000#32 : Operand).toNat).length →
      busyBit (erasing.rx.peek Config.freeRx (wakeBytes erasing + 7 * j + 6)) = false := ⟨witness_erase.1, rfl, by decide⟩

/-- An ERASE of the first sector whose polls are busy at 400, 800 and 1200 ms. -/
def erasingLong : State := { holding ⟨5, 0, 0x1000, 0, none⟩ with rx := ⟨List.replicate 11 1#8, 0⟩ }

theorem witness_erase_times_out :
    Ready (.erase 0 0x1000) erasingLong ∧ (0#32 : Operand).toNat + (0x1000#32 : Operand).toNat ≤ erasingLong.flashSize ∧
    (0#32 : Operand).toNat % 4096 = 0 ∧ (0x1000#32 : Operand).toNat % 4096 = 0 ∧
    Completes (.erase 0 0x1000) erasingLong (ended (.erase 0 0x1000) erasingLong 30) ∧
    Answered erasingLong (ended (.erase 0 0x1000) erasingLong 30) ⟨.timeout, none, none⟩ :=
  ⟨⟨⟨rfl, rfl, _, rfl, rfl⟩, rfl, rfl⟩, by decide, by decide, by decide, completes_ended (by decide),
    ⟨by decide, by decide, by decide, by decide⟩⟩
theorem witness_units : 0x8000 % 4096 = 0 ∧ 0x19000 % 4096 = 0 := by decide
theorem witness_write_points :
    ({ bench with seq := .write .wake }.frame = none ∧ { bench with seq := .write .wake }.poweredDown = false) ∧
    ({ bench with seq := .write .chunks, cur := 0xFF, rem := 2 }.seq = .write .chunks ∧
      0 < { bench with seq := .write .chunks, cur := 0xFF, rem := 2 }.rem) ∧
    ({ bench with seq := .write .chunks }.seq = .write .chunks ∧ { bench with seq := .write .chunks }.rem = 0) ∧
    { bench with seq := .write .wen }.seq = .write .wen ∧ { bench with seq := .write .cmd }.seq = .write .cmd ∧
    { bench with seq := .write .advance }.seq = .write .advance := by decide

/-- A WRITE of two bytes across a page boundary near the end of the flash; the three polls show idle, and bit 0 is set in
every other received byte. -/
def writing : State :=
  { holding ⟨6, 0xFFEFF, 2, 0, some [0xA1#8, 0xB2#8]⟩ with
    rx := ⟨[1#8, 0xFE#8, 1#8, 1#8, 1#8, 1#8, 1#8, 1#8, 1#8, 0xFE#8, 1#8, 1#8, 1#8, 1#8, 1#8, 1#8, 1#8, 0xFE#8], 0⟩,
    ticks := ⟨[1, 1, 1], 0⟩ }

theorem witness_write :
    Ready (.write (some [0xA1#8, 0xB2#8]) 0xFFEFF 2) writing ∧ [0xA1#8, 0xB2#8].length = (2#32 : Operand).toNat ∧
    (0xFFEFF#32 : Operand).toNat + (2#32 : Operand).toNat ≤ writing.flashSize ∧
    Completes (.write (some [0xA1#8, 0xB2#8]) 0xFFEFF 2) writing
      (ended (.write (some [0xA1#8, 0xB2#8]) 0xFFEFF 2) writing 28) ∧
    Answered writing (ended (.write (some [0xA1#8, 0xB2#8]) 0xFFEFF 2) writing 28) ⟨.success, none, none⟩ :=
  ⟨⟨⟨rfl, rfl, _, rfl, rfl⟩, rfl, rfl⟩, by decide, by decide, completes_ended (by decide),
    ⟨by decide, by decide, by decide, by decide⟩⟩
theorem witness_write_idle :
    Ready (.write (some [0xA1#8, 0xB2#8]) 0xFFEFF 2) writing ∧ writing.answers = .oracle ∧
    ∀ j, j ≤ pageCount (0xFFEFF#32 : Operand).toNat (2#32 : Operand).toNat →
      busyBit (writing.rx.peek Config.freeRx (wakeBytes writing + 7 * j +
        bytesBefore (0xFFEFF#32 : Operand).toNat (2#32 : Operand).toNat j + 1)) = false := ⟨witness_write.1, rfl, by decide⟩

/-- A WRITE of one byte whose polls before the chunk are busy at 400, 800 and 1200 ms. -/
def writingLong : State := { holding ⟨6, 0, 1, 0, some [7#8]⟩ with rx := ⟨List.replicate 6 1#8, 0⟩ }

theorem witness_write_times_out :
    Ready (.write (some [7#8]) 0 1) writingLong ∧ [7#8].length = (1#32 : Operand).toNat ∧
    (0#32 : Operand).toNat + (1#32 : Operand).toNat ≤ writingLong.flashSize ∧
    Completes (.write (some [7#8]) 0 1) writingLong (ended (.write (some [7#8]) 0 1) writingLong 30) ∧
    Answered writingLong (ended (.write (some [7#8]) 0 1) writingLong 30) ⟨.timeout, none, none⟩ :=
  ⟨⟨⟨rfl, rfl, _, rfl, rfl⟩, rfl, rfl⟩, by decide, by decide, completes_ended (by decide),
    ⟨by decide, by decide, by decide, by decide⟩⟩
theorem witness_chunks : 0 < 2 ∧ 0 + 1 < pageCount 255 2 ∧ 1 < pageCount 255 2 := by decide

theorem witness_read : Ready (.read 0xFFFFF 1) (holding ⟨7, 0xFFFFF, 1, 0, none⟩) ∧
    (0xFFFFF#32 : Operand).toNat + (1#32 : Operand).toNat ≤ (holding ⟨7, 0xFFFFF, 1, 0, none⟩).flashSize :=
  ⟨⟨⟨rfl, rfl, _, rfl, rfl⟩, rfl, rfl⟩, by decide⟩
theorem witness_jedec : Ready .getJedecId (holding (plainRequest 8)) := ⟨⟨rfl, rfl, _, rfl, rfl⟩, rfl, rfl⟩
theorem witness_unique : Ready .getUniqueId (holding (plainRequest 9)) := ⟨⟨rfl, rfl, _, rfl, rfl⟩, rfl, rfl⟩

/-! Results and the whole machine -/

theorem witness_response :
    (after (exec .wait { bench with seq := .wait .test }) fun t => decide (t.responses ≠ bench.responses)) = true := by
  decide
theorem witness_not_sticky : Instr.wait.isOperation = true ∧ bench.seq = .idle := by decide
theorem witness_event :
    (after (exec .wait { bench with seq := .wait .start }) fun t => decide (t.trace = bench.trace ++ [.now 1000])) = true ∧
    (after (exec .init { bench with seq := .init .config }) fun t => decide (t.trace = bench.trace ++ [.busInit])) =
      true := by decide
theorem witness_step_next : ∃ t, step (asked (plainRequest 2)) = .next t := exists_next (by decide)

/-- A machine between the write-enable frame and its erase frame. -/
def latched : State :=
  { holding ⟨5, 0, 0x1000, 0, none⟩ with
    seq := .erase (.waiting .sector .start), rem := 0x1000, frame := some [0x20#8, 0#8, 0#8, 0#8],
    trace := [.frame [0x06#8] [0#8]] }

theorem witness_latch : LatchDiscipline latched ∧ ∃ t, step latched = .next t := by
  refine ⟨⟨?_, by decide⟩, exists_next (by decide)⟩
  intro m hm
  simp only [latched, holding, Option.some.injEq] at hm
  subst hm
  decide
theorem witness_frames_legal : FramesLegal latched := by
  intro m r h
  simp only [latched, holding, List.mem_singleton, Event.frame.injEq] at h
  obtain ⟨rfl, rfl⟩ := h
  exact ⟨rfl, .writeEnable, rfl, rfl⟩
theorem witness_frames_coherent : Coherent latched :=
  { sizePositive := by decide
    sizeBounded := by decide
    placed := witness_latch.1.1
    legal := fun m h => by
      simp only [latched, holding, Option.some.injEq] at h
      subst h
      exact ⟨.sectorErase4k 0, by decide, by decide⟩
    running := fun _ => ⟨_, _, rfl, rfl, 0, 0x1000, rfl, by decide, by simp only [EraseProgress]; decide⟩
    initialised := fun _ => rfl
    configured := fun _ => rfl
    canonical := bench_array_canonical }
theorem witness_clock :
    ClockOrdered { bench with seq := .wait .time, trace := [.now 5], clock := 5 } ∧
    ∃ t, step { holding (plainRequest 2) with seq := .wait .time, trace := [.now 5], clock := 5 } = .next t :=
  ⟨⟨by decide, by decide⟩, exists_next (by decide)⟩

/-- An ERASE of the last sector at its erase command. -/
def erasingUnit : State := { holding ⟨5, 0xFF000, 0x1000, 0, none⟩ with
  seq := .erase (.cmd .sector), cur := 0xFF000, rem := 0x1000 }

theorem witness_coherent_erase : Coherent erasingUnit ∧ erasingUnit.seq = .erase (.cmd .sector) :=
  ⟨{ sizePositive := by decide
     sizeBounded := by decide
     placed := fun m h => by simp [erasingUnit, holding, bench] at h
     legal := fun m h => by simp [erasingUnit, holding, bench] at h
     running := fun _ => ⟨_, _, rfl, rfl, 0xFF000, 0x1000, rfl, by decide, by simp only [EraseProgress]; decide⟩
     initialised := fun _ => rfl
     configured := fun _ => rfl
     canonical := bench_array_canonical }, rfl⟩

/-- A WRITE of the last byte of the flash at its program command. -/
def writingChunk : State := { holding ⟨6, 0xFFFFF, 1, 0, some [7#8]⟩ with
  seq := .write .cmd, cur := 0xFFFFF, rem := 1, chunk := 1 }

theorem witness_coherent_write : Coherent writingChunk ∧ writingChunk.seq = .write .cmd :=
  ⟨{ sizePositive := by decide
     sizeBounded := by decide
     placed := fun m h => by simp [writingChunk, holding, bench] at h
     legal := fun m h => by simp [writingChunk, holding, bench] at h
     running := fun _ => ⟨_, _, rfl, rfl, [7#8], 0xFFFFF, 1, rfl, by decide, by decide,
       by simp only [WriteProgress]; decide⟩
     initialised := fun _ => rfl
     configured := fun _ => rfl
     canonical := bench_array_canonical }, rfl⟩
theorem witness_working_points :
    (erasingUnit.seq = .erase (.cmd .sector) ∧ (.cmd .sector : ErasePoint) ≠ .wake) ∧
    (writingChunk.seq = .write .cmd ∧ (.cmd : WritePoint) ≠ .wake) := by decide

/-- A WRITE of the last byte of the flash at its last wait. -/
def writingLast : State := { holding ⟨6, 0xFFFFF, 1, 0, some [7#8]⟩ with
  seq := .write (.waitLast .poll), cur := 0x100000, rem := 0, chunk := 1, idx := 1 }

theorem witness_coherent_last : Coherent writingLast ∧ writingLast.seq = .write (.waitLast .poll) :=
  ⟨{ sizePositive := by decide
     sizeBounded := by decide
     placed := fun m h => by simp [writingLast, holding, bench] at h
     legal := fun m h => by simp [writingLast, holding, bench] at h
     running := fun _ => ⟨_, _, rfl, rfl, [7#8], 0xFFFFF, 1, rfl, by decide, by decide,
       by simp only [WriteProgress]; decide⟩
     initialised := fun _ => rfl
     configured := fun _ => rfl
     canonical := bench_array_canonical }, rfl⟩

/-! The registers of the reference chip: a clause each for a busy chip, a chip powered down, and one that obeys -/

theorem witness_chip_registers :
    (bench.transportReady = true ∧ Instr.writeEnable.isOperation = false ∧ bench.chip.busyFor = 0 ∧
      bench.chip.asleep = false ∧ bench.chip.wel = true) ∧
    { bench.chip with busyFor := 1 }.busyFor ≠ 0 ∧
    ({ bench.chip with asleep := true }.busyFor = 0 ∧ { bench.chip with asleep := true }.asleep = true) ∧
    { bench.chip with wel := false }.wel = false ∧
    ({ bench with answers := .chip }.answers = .chip ∧ { bench with answers := .chip }.chip.listens = true) := by decide
theorem test_cycle_ends_and_clears_latch :
    (after (exec (.readStatusRegister 0#8) { bench with chip := { bench.chip with busyFor := 1 } }) fun t =>
      decide (t.chip.busyFor = 0) && !t.chip.wel) = true := by decide
theorem test_status_write_under_mask :
    (after (exec (.writeStatusRegister 0xFF#8) { bench with chip := { bench.chip with srMask := 0x9C#8 } }) fun t =>
      decide (t.chip.sr = 0x9C#8)) = true := by decide

end Sys2Proof.Tests
end

section
/-! PROOFS. What the host sees of every step (R8, R23, R269): FLASH_SIZE and who answers stay, `inited` is set by INIT's
end alone, at most one request is taken and at most one response delivered. -/

namespace Sys2Proof

/-- What is decoded, if anything, is a wire command (R3). -/
def DecodesToWire (x : Except DecodeError Instr) : Prop := ∀ i, x = .ok i → i.isOperation = false

theorem DecodesToWire.ite {c : Prop} [Decidable c] {x y : Except DecodeError Instr} (hx : DecodesToWire x)
    (hy : DecodesToWire y) : DecodesToWire (if c then x else y) := by
  split
  · exact hx
  · exact hy

theorem decodesToWire_error (e : DecodeError) : DecodesToWire (.error e) := by
  rintro _ ⟨⟩

theorem checked_decodesToWire {i : Instr} (e : DecodeError) (hi : i.isOperation = false) :
    DecodesToWire (checked i e) := by
  intro j h
  obtain ⟨rfl, -⟩ := checked_ok.1 h
  exact hi

section
variable (rest : List Byte)

theorem decodeOp_decodesToWire {i : Instr} (hi : i.isOperation = false) : DecodesToWire (decodeOp i rest) := by
  intro j h
  obtain ⟨-, rfl⟩ := decodeOp_ok.1 h
  exact hi

theorem decodeReg_decodesToWire {f : Byte → Instr} (hf : ∀ v, (f v).isOperation = false) :
    DecodesToWire (decodeReg f rest) := by
  intro j h
  obtain ⟨v, -, rfl⟩ := decodeReg_ok.1 h
  exact hf v

theorem decodeAddr_decodesToWire {f : FlashAddr → Instr} (hf : ∀ a, (f a).isOperation = false) :
    DecodesToWire (decodeAddr f rest) := by
  intro j h
  obtain ⟨a, -, rfl⟩ := decodeAddr_ok.1 h
  exact hf a

theorem decodeAddrData_decodesToWire {f : FlashAddr → List Byte → Instr} (hf : ∀ a p, (f a p).isOperation = false) :
    DecodesToWire (decodeAddrData f rest) := by
  intro j h
  obtain ⟨a, p, -, rfl, -⟩ := decodeAddrData_ok.1 h
  exact hf a p

end

/-- What a frame decodes to is a wire command, opcode by opcode (R87); the counterpart of `decodeRequest_isOperation`. -/
theorem decodeFrame_decodesToWire (b : List Byte) : DecodesToWire (decodeFrame b) := by
  cases b with
  | nil => exact decodesToWire_error _
  | cons op rest =>
    exact
      .ite (decodeReg_decodesToWire rest fun _ => rfl) <|
      .ite (decodeAddrData_decodesToWire rest fun _ _ => rfl) <|
      .ite (decodeAddrData_decodesToWire rest fun _ _ => rfl) <|
      .ite (decodeReg_decodesToWire rest fun _ => rfl) <|
      .ite (decodeOp_decodesToWire rest rfl) <|
      .ite (decodeAddr_decodesToWire rest fun _ => rfl) <|
      .ite (checked_decodesToWire _ rfl) <|
      .ite (decodeAddr_decodesToWire rest fun _ => rfl) <|
      .ite (decodeOp_decodesToWire rest rfl) <|
      .ite (decodeOp_decodesToWire rest rfl) <|
      .ite (checked_decodesToWire _ rfl) (decodesToWire_error _)

theorem decodeFrame_isOperation {b : List Byte} {i : Instr} (h : decodeFrame b = .ok i) : i.isOperation = false :=
  decodeFrame_decodesToWire b i h

end Sys2Proof

namespace Sys2Proof.Machine

/-! ### Moving on: `inited` kept, at most one response delivered -/

/-- From `s` to `t` the operation goes on or delivers one response, and `inited` stays. -/
def MovesOn (s t : State) : Prop :=
  t.inited = s.inited ∧ (t.responses = s.responses ∨ ∃ r, t.responses = s.responses ++ [r])

/-- The next state of the outcome, if there is one, moves on from `s`. -/
def OutMovesOn (s : State) (o : Out) : Prop := ∀ t, o = .next t → MovesOn s t

section
variable {s t : State}

theorem MovesOn.goesOn (hi : t.inited = s.inited) (hr : t.responses = s.responses) : MovesOn s t := ⟨hi, .inl hr⟩

theorem MovesOn.answers {r : Response} (hi : t.inited = s.inited) (hr : t.responses = s.responses ++ [r]) :
    MovesOn s t := ⟨hi, .inr ⟨r, hr⟩⟩

theorem MovesOn.ite {c : Prop} [Decidable c] {u : State} (ht : MovesOn s t) (hu : MovesOn s u) :
    MovesOn s (if c then t else u) := by
  split
  · exact ht
  · exact hu

theorem outMovesOn_next (h : MovesOn s t) : OutMovesOn s (.next t) := by
  rintro _ ⟨⟩
  exact h

theorem outMovesOn_refused (r : Refusal) : OutMovesOn s (.refused r) := by
  rintro _ ⟨⟩

theorem outMovesOn_begin {go : State → State} (h : MovesOn s (go s.accept)) : OutMovesOn s (s.begin go) := by
  intro t ht
  obtain ⟨-, rfl⟩ := begin_next.1 ht
  exact h

/-- `Wake()` moves on if what follows it does. -/
theorem wakeThen_movesOn {go : State → State} (h : MovesOn s (go s)) : MovesOn s (s.wakeThen go) := by
  obtain ⟨-, e⟩ | ⟨-, e⟩ := wakeThen_cases s go <;> rw [e]
  · exact .goesOn rfl rfl
  · exact h

/-- A point of `Wait()` moves on if the place its result goes to does. -/
theorem waitStep_movesOn {at_ : WaitPoint → Seq} {done : Result → State → State} (w : WaitPoint)
    (hdone : ∀ r v, MovesOn v (done r v)) : MovesOn s (s.waitStep at_ done w) := by
  cases w with
  | start => exact wakeThen_movesOn (.goesOn rfl rfl)
  | poll => exact wakeThen_movesOn (.goesOn rfl rfl)
  | test => exact .ite (.goesOn rfl rfl) (hdone .success s)
  | time => exact .ite (hdone .timeout s.readClock) (.goesOn rfl rfl)

end

theorem answer_movesOn (r : Result) (s : State) : MovesOn s (s.answer r) := .answers rfl rfl

theorem eraseUnitDone_movesOn (u : EraseSize) (r : Result) (s : State) : MovesOn s (eraseUnitDone u r s) := by
  cases r with
  | success => exact .goesOn rfl rfl
  | _ => exact answer_movesOn _ s

theorem writeChunkReady_movesOn (r : Result) (s : State) : MovesOn s (writeChunkReady r s) := by
  cases r with
  | success => exact .goesOn rfl rfl
  | _ => exact answer_movesOn _ s

/-! ### The operations, point by point -/

theorem execSleep_movesOn (s : State) : OutMovesOn s (execSleep s) := by
  unfold execSleep
  split
  · exact outMovesOn_begin (.ite (.answers rfl rfl) (.goesOn rfl rfl))
  · exact outMovesOn_next (.goesOn rfl rfl)
  · exact outMovesOn_next (.answers rfl rfl)
  · exact outMovesOn_refused _

theorem execWait_movesOn (s : State) : OutMovesOn s (execWait s) := by
  unfold execWait
  split
  · exact outMovesOn_begin (.goesOn rfl rfl)
  · exact outMovesOn_next (waitStep_movesOn _ answer_movesOn)
  · exact outMovesOn_refused _

theorem execGetStatus_movesOn (s : State) : OutMovesOn s (execGetStatus s) := by
  unfold execGetStatus
  split
  · exact outMovesOn_begin (.goesOn rfl rfl)
  · exact outMovesOn_next (wakeThen_movesOn (.goesOn rfl rfl))
  · exact outMovesOn_next (.answers rfl rfl)
  · exact outMovesOn_refused _

theorem execSetStatus_movesOn (v : Byte) (s : State) : OutMovesOn s (execSetStatus v s) := by
  unfold execSetStatus
  split
  · exact outMovesOn_begin (.goesOn rfl rfl)
  · exact outMovesOn_next (wakeThen_movesOn (.goesOn rfl rfl))
  · exact outMovesOn_next (.goesOn rfl rfl)
  · exact outMovesOn_next (.goesOn rfl rfl)
  · exact outMovesOn_next (waitStep_movesOn _ answer_movesOn)
  · exact outMovesOn_refused _

theorem execErase_movesOn (offset length : Operand) (s : State) : OutMovesOn s (execErase offset length s) := by
  unfold execErase
  split
  · exact outMovesOn_begin (.ite (.answers rfl rfl) (.goesOn rfl rfl))
  · exact outMovesOn_next (wakeThen_movesOn (.goesOn rfl rfl))
  · exact outMovesOn_next (.goesOn rfl rfl)
  · exact outMovesOn_next (.ite (.goesOn rfl rfl) (.answers rfl rfl))
  · exact outMovesOn_next (.ite (.answers rfl rfl) (.goesOn rfl rfl))
  · exact outMovesOn_next (.goesOn rfl rfl)
  · exact outMovesOn_next (waitStep_movesOn _ (eraseUnitDone_movesOn _))
  · exact outMovesOn_refused _

theorem execWrite_movesOn (data : Option (List Byte)) (offset length : Operand) (s : State) :
    OutMovesOn s (execWrite data offset length s) := by
  unfold execWrite
  split
  · exact outMovesOn_begin (.ite (.answers rfl rfl) (.goesOn rfl rfl))
  · exact outMovesOn_next (wakeThen_movesOn (.goesOn rfl rfl))
  · exact outMovesOn_next (.ite (.goesOn rfl rfl) (.goesOn rfl rfl))
  · exact outMovesOn_next (waitStep_movesOn _ writeChunkReady_movesOn)
  · exact outMovesOn_next (.goesOn rfl rfl)
  · exact outMovesOn_next (.goesOn rfl rfl)
  · exact outMovesOn_next (.goesOn rfl rfl)
  · exact outMovesOn_next (waitStep_movesOn _ answer_movesOn)
  · exact outMovesOn_refused _

theorem execRead_movesOn (offset length : Operand) (s : State) : OutMovesOn s (execRead offset length s) := by
  unfold execRead
  split
  · exact outMovesOn_begin (.ite (.answers rfl rfl) (.goesOn rfl rfl))
  · exact outMovesOn_next (wakeThen_movesOn (.goesOn rfl rfl))
  · exact outMovesOn_next (.goesOn rfl rfl)
  · exact outMovesOn_next (.answers rfl rfl)
  · exact outMovesOn_refused _

theorem execGetJedecId_movesOn (s : State) : OutMovesOn s (execGetJedecId s) := by
  unfold execGetJedecId
  split
  · exact outMovesOn_begin (.goesOn rfl rfl)
  · exact outMovesOn_next (wakeThen_movesOn (.goesOn rfl rfl))
  · exact outMovesOn_next (.goesOn rfl rfl)
  · exact outMovesOn_next (.answers rfl rfl)
  · exact outMovesOn_refused _

theorem execGetUniqueId_movesOn (s : State) : OutMovesOn s (execGetUniqueId s) := by
  unfold execGetUniqueId
  split
  · exact outMovesOn_begin (.goesOn rfl rfl)
  · exact outMovesOn_next (wakeThen_movesOn (.goesOn rfl rfl))
  · exact outMovesOn_next (.goesOn rfl rfl)
  · exact outMovesOn_next (.answers rfl rfl)
  · exact outMovesOn_refused _

/-- INIT moves on at every point but its last, where `inited` is set and Success delivered (R121, R23). -/
theorem execInit_next {s t : State} (h : execInit s = .next t) :
    MovesOn s t ∨ (s.seq = .init .finish ∧ t = { s with inited := true }.answer .success) := by
  unfold execInit at h
  split at h
  · obtain rfl := Host.Outcome.next.inj h
    exact .inl (.goesOn rfl rfl)
  · obtain rfl := Host.Outcome.next.inj h
    exact .inl (.goesOn rfl rfl)
  · obtain rfl := Host.Outcome.next.inj h
    exact .inl (.goesOn rfl rfl)
  next hs => exact .inr ⟨hs, (Host.Outcome.next.inj h).symm⟩
  · cases h

/-! ### `exec` and `step` -/

/-- A wire command delivers nothing and leaves `inited` alone. -/
theorem wire_movesOn {i : Instr} {s : State} (hi : i.isOperation = false) : OutMovesOn s (exec i s) := by
  intro t h
  obtain ⟨-, rfl⟩ := (wire_next hi).1 h
  exact .goesOn rfl rfl

/-- Every instruction moves on, but for INIT at its last point. -/
theorem exec_movesOn {i : Instr} {s t : State} (h : exec i s = .next t) :
    MovesOn s t ∨ (i = .init ∧ s.seq = .init .finish ∧ t = { s with inited := true }.answer .success) := by
  cases i with
  | init => exact (execInit_next h).imp_right fun ht => ⟨rfl, ht⟩
  | sleep => exact .inl (execSleep_movesOn s t h)
  | wait => exact .inl (execWait_movesOn s t h)
  | getStatus => exact .inl (execGetStatus_movesOn s t h)
  | setStatus v => exact .inl (execSetStatus_movesOn v s t h)
  | erase o n => exact .inl (execErase_movesOn o n s t h)
  | write d o n => exact .inl (execWrite_movesOn d o n s t h)
  | read o n => exact .inl (execRead_movesOn o n s t h)
  | getJedecId => exact .inl (execGetJedecId_movesOn s t h)
  | getUniqueId => exact .inl (execGetUniqueId_movesOn s t h)
  | _ => exact .inl (wire_movesOn rfl t h)

/-- No instruction writes FLASH_SIZE, who answers a frame, or the requests still to come. -/
theorem exec_keepsOutside {i : Instr} {s t : State} (h : exec i s = .next t) :
    t.flashSize = s.flashSize ∧ t.answers = s.answers ∧ t.requests = s.requests := by
  cases hi : i.isOperation with
  | false =>
    obtain ⟨-, rfl⟩ := (wire_next hi).1 h
    exact ⟨rfl, rfl, rfl⟩
  | true =>
    obtain ⟨hsize, -, -, -, -, hreqs, hans, -⟩ := operation_keepsBus hi h
    exact ⟨hsize, hans, hreqs⟩

/-- A step moves on, but for the one that ends INIT, which has no composed frame left to send. -/
theorem step_movesOn {s t : State} (h : step s = .next t) :
    MovesOn s t ∨
      (s.seq = .init .finish ∧ s.frame = none ∧ t.inited = true ∧ ∃ r, t.responses = s.responses ++ [r]) := by
  obtain ⟨b, i, -, hd, he⟩ | ⟨-, -, -, rfl⟩ | ⟨r, rest, i, -, hidle, -, -, he⟩ | ⟨r, i, hf, -, -, -, he⟩ := step_next h
  · exact .inl (wire_movesOn (decodeFrame_isOperation hd) t he)
  · exact .inl (.goesOn rfl rfl)
  · obtain hm | ⟨-, hs, -⟩ := exec_movesOn he
    · exact .inl hm
    · cases hidle.symm.trans hs
  · obtain hm | ⟨-, hs, rfl⟩ := exec_movesOn he
    · exact .inl hm
    · exact .inr ⟨hs, hf, rfl, _, rfl⟩

/-- A step leaves FLASH_SIZE and who answers alone, and takes at most the host's next request. -/
theorem step_keepsOutside {s t : State} (h : step s = .next t) :
    t.flashSize = s.flashSize ∧ t.answers = s.answers ∧
      (t.requests = s.requests ∨ ∃ r, s.requests = r :: t.requests) := by
  obtain ⟨b, i, -, -, he⟩ | ⟨-, -, -, rfl⟩ | ⟨r, rest, i, -, -, hreqs, -, he⟩ | ⟨r, i, -, -, -, -, he⟩ := step_next h
  · obtain ⟨hsize, hans, hkept⟩ := exec_keepsOutside he
    exact ⟨hsize, hans, .inl hkept⟩
  · exact ⟨rfl, rfl, .inl rfl⟩
  · obtain ⟨hsize, hans, hkept⟩ := exec_keepsOutside he
    exact ⟨hsize, hans, .inr ⟨r, hreqs.trans (congrArg (r :: ·) hkept.symm)⟩⟩
  · obtain ⟨hsize, hans, hkept⟩ := exec_keepsOutside he
    exact ⟨hsize, hans, .inl hkept⟩

/-- Settles O53: a step either moves on with `inited` kept, or is the one that ends INIT. -/
theorem stepKeepsWhatIsFixed : Obligations.StepKeepsWhatIsFixed := by
  intro s t h
  obtain ⟨hsize, hans, hreqs⟩ := step_keepsOutside h
  obtain ⟨hinited, hresp⟩ | ⟨hseq, hframe, hinited, hresp⟩ := step_movesOn h
  · exact ⟨hsize, hans, fun hs => hinited.trans hs, fun hne => absurd hinited hne, hreqs, hresp⟩
  · exact ⟨hsize, hans, fun _ => hinited, fun _ => ⟨hseq, hframe⟩, hreqs, .inr hresp⟩

end Sys2Proof.Machine
end

section
/-! PROOFS. What a step runs (R27, R269; logs 9, 17) and how an operation without input checks is accepted. -/

namespace Sys2Proof.Machine

/-! ### What a step runs -/

/-- A composed frame is sent first. -/
theorem step_of_frame {s : State} {b : List Byte} {i : Instr} (hf : s.frame = some b) (hd : decodeFrame b = .ok i) :
    step s = exec i s := by
  simp [step, State.fetch, hf, hd]

/-- An IDLE sequencer reads the host's next request into REQ. -/
theorem step_of_request {s : State} {r : Request} {rest : List Request} {i : Instr} (hf : s.frame = none)
    (hs : s.seq = .idle) (hq : s.requests = r :: rest) (hd : decodeRequest r = .ok i) :
    step s = exec i { s with requests := rest, req := some r } := by
  simp [step, State.fetch, hf, hs, hq, hd]

/-- A running operation goes on with the request that REQ holds. -/
theorem step_of_running {s : State} {r : Request} {i : Instr} (hf : s.frame = none) (hs : s.seq ≠ .idle)
    (hr : s.req = some r) (hd : decodeRequest r = .ok i) : step s = exec i s := by
  simp [step, State.fetch, hf, hr, hd]

/-- IDLE with no request, nothing happens (log 17). -/
theorem step_of_nothing {s : State} (hf : s.frame = none) (hs : s.seq = .idle) (hq : s.requests = []) :
    step s = .next s := by
  simp [step, State.fetch, hf, hs, hq]

/-- Settles O7: the four ways a step finds what to run. -/
theorem stepRunsTheDecodedInstruction : Obligations.StepRunsTheDecodedInstruction :=
  ⟨fun _ _ _ => step_of_frame, fun _ _ _ _ => step_of_request, fun _ _ _ => step_of_running,
    fun _ => step_of_nothing⟩

/-! ### Accepting a request -/

theorem begin_of_inited {s : State} (h : s.inited = true) (go : State → State) : s.begin go = .next (go s.accept) :=
  begin_next.2 ⟨h, rfl⟩

/-- Settles O24: each of the five operations begins with the point it goes to. -/
theorem acceptedOperationsStart : Obligations.AcceptedOperationsStart := by
  intro s v hs hi
  have accepted (k : Seq) : s.begin (fun s => s.goto k) = .next { s with resp := none, seq := k } :=
    begin_of_inited hi _
  simp only [exec, execWait, execGetStatus, execSetStatus, execGetJedecId, execGetUniqueId, hs, accepted, and_self]

end Sys2Proof.Machine
end

section
/-! PROOFS. Everything a point of a host operation can do, said once; from it the events of a step (R13, R27) and the
power mirror (R21, R22). -/

namespace Sys2Proof

/-! ### Frames and the commands they stand for -/

/-- What is decoded, if anything, is the command whose own frame is `b` (R82). -/
def DecodesToOwner (b : List Byte) (x : Except DecodeError Instr) : Prop := ∀ i, x = .ok i → encodeFrame i = some b

section
variable {op : Byte} {rest : List Byte}

theorem DecodesToOwner.ite {v : Byte} {x y : Except DecodeError Instr} (hx : DecodesToOwner (v :: rest) x)
    (hy : DecodesToOwner (op :: rest) y) : DecodesToOwner (op :: rest) (if op = v then x else y) := by
  split
  next h => exact h ▸ hx
  · exact hy

theorem decodesToOwner_error (b : List Byte) (e : DecodeError) : DecodesToOwner b (.error e) := by
  rintro _ ⟨⟩

theorem checked_decodesToOwner {i : Instr} (e : DecodeError) (hi : encodeFrame i = some (op :: rest)) :
    DecodesToOwner (op :: rest) (checked i e) := by
  intro j h
  obtain ⟨rfl, -⟩ := checked_ok.1 h
  exact hi

theorem decodeOp_decodesToOwner {i : Instr} (hi : encodeFrame i = some [op]) :
    DecodesToOwner (op :: rest) (decodeOp i rest) := by
  intro j h
  obtain ⟨rfl, rfl⟩ := decodeOp_ok.1 h
  exact hi

theorem decodeReg_decodesToOwner {f : Byte → Instr} (hf : ∀ v, encodeFrame (f v) = some [op, v]) :
    DecodesToOwner (op :: rest) (decodeReg f rest) := by
  intro j h
  obtain ⟨v, rfl, rfl⟩ := decodeReg_ok.1 h
  exact hf v

theorem decodeAddr_decodesToOwner {f : FlashAddr → Instr} (hf : ∀ a, encodeFrame (f a) = some (op :: addr3 a)) :
    DecodesToOwner (op :: rest) (decodeAddr f rest) := by
  intro j h
  obtain ⟨a, rfl, rfl⟩ := decodeAddr_ok.1 h
  exact hf a

theorem decodeAddrData_decodesToOwner {f : FlashAddr → List Byte → Instr}
    (hf : ∀ a p, encodeFrame (f a p) = some (op :: addr3 a ++ p)) :
    DecodesToOwner (op :: rest) (decodeAddrData f rest) := by
  intro j h
  obtain ⟨a, p, rfl, rfl, -⟩ := decodeAddrData_ok.1 h
  exact hf a p

end

/-- What a frame decodes to is the command whose own frame it is, byte for byte (R82, R87). -/
theorem encodeFrame_of_decodeFrame {b : List Byte} {i : Instr} (h : decodeFrame b = .ok i) :
    encodeFrame i = some b := by
  refine (show DecodesToOwner b (decodeFrame b) from ?_) i h
  cases b with
  | nil => exact decodesToOwner_error _ _
  | cons op rest =>
    exact
      .ite (decodeReg_decodesToOwner fun _ => rfl) <|
      .ite (decodeAddrData_decodesToOwner fun _ _ => rfl) <|
      .ite (decodeAddrData_decodesToOwner fun _ _ => rfl) <|
      .ite (decodeReg_decodesToOwner fun _ => rfl) <|
      .ite (decodeOp_decodesToOwner rfl) <|
      .ite (decodeAddr_decodesToOwner fun _ => rfl) <|
      .ite (checked_decodesToOwner _ rfl) <|
      .ite (decodeAddr_decodesToOwner fun _ => rfl) <|
      .ite (decodeOp_decodesToOwner rfl) <|
      .ite (decodeOp_decodesToOwner rfl) <|
      .ite (checked_decodesToOwner _ rfl) (decodesToOwner_error _ _)

end Sys2Proof

namespace Sys2Proof.Machine

/-! ### What a point of an operation can do -/

/-- Everything a point of a host operation can do: the ways from `s` to its next state. Of INIT's last point it says that
only a composed release frame leads there and that `finishesInit` leaves it. -/
inductive PointMove (s : State) : State → Prop
  /-- the request is accepted (R27) -/
  | accepts (k : Seq) (hk : k ≠ .init .finish) : PointMove s (s.accept.goto k)
  /-- the request is answered at once (R222, R126) -/
  | answersAtOnce (r : Result) : PointMove s (s.accept.answer r)
  /-- `Wake()` composes the release frame and stays at its point (R123) -/
  | wakes (hs : s.seq ≠ .init .finish) : PointMove s (s.post .releasePowerDown)
  /-- `BusInit()` (R236) -/
  | configures : PointMove s (s.initializeAsController.goto (.init .wake))
  /-- the end of INIT (R121) -/
  | finishesInit (hs : s.seq = .init .finish) : PointMove s ({ s with inited := true }.answer .success)
  /-- the operation computes in its working registers (R25) -/
  | works (cur rem chunk idx : Nat) (k : Seq) (hk : k ≠ .init .finish) :
      PointMove s ({ s with cur := cur, rem := rem, chunk := chunk, idx := idx }.goto k)
  /-- a frame is composed, its filler bytes drawn (R86) -/
  | composes (j : Instr) (n : Nat) (k : Seq) (hk : k = .init .finish → j = .releasePowerDown) :
      PointMove s (((s.tookFillers n).post j).goto k)
  /-- `Now()`, perhaps kept in `t0` (R148) -/
  | readsClock (t0 : Nat) (k : Seq) (hk : k ≠ .init .finish) : PointMove s ({ s.readClock with t0 := t0 }.goto k)
  /-- `Wait()` has timed out (R148) -/
  | timesOut (r : Result) : PointMove s (s.readClock.answer r)
  /-- the operation returns its result (R225) -/
  | responds (r : Result) (v : Option RespValue) (d : Option (List Byte)) : PointMove s (s.respond r v d)

/-- The next state of the outcome, if there is one, is reached by the move of a point. -/
def OutPointMove (s : State) (o : Out) : Prop := ∀ t, o = .next t → PointMove s t

section
variable {s t : State}

theorem PointMove.ite {c : Prop} [Decidable c] {u : State} (ht : PointMove s t) (hu : PointMove s u) :
    PointMove s (if c then t else u) := by
  split
  · exact ht
  · exact hu

/-- The plain `seq <- k`. -/
theorem PointMove.goes {k : Seq} (hk : k ≠ .init .finish) : PointMove s (s.goto k) :=
  .works s.cur s.rem s.chunk s.idx k hk

/-- A frame without filler bytes is composed. -/
theorem PointMove.posts (j : Instr) {k : Seq} (hk : k = .init .finish → j = .releasePowerDown) :
    PointMove s ((s.post j).goto k) :=
  .composes j 0 k hk

theorem outPointMove_next (h : PointMove s t) : OutPointMove s (.next t) := by
  rintro _ ⟨⟩
  exact h

theorem outPointMove_refused (r : Refusal) : OutPointMove s (.refused r) := by
  rintro _ ⟨⟩

theorem outPointMove_begin {go : State → State} (h : PointMove s (go s.accept)) : OutPointMove s (s.begin go) := by
  intro t ht
  obtain ⟨-, rfl⟩ := begin_next.1 ht
  exact h

theorem wakeThen_pointMove {go : State → State} (hs : s.seq ≠ .init .finish) (h : PointMove s (go s)) :
    PointMove s (s.wakeThen go) := by
  obtain ⟨-, e⟩ | ⟨-, e⟩ := wakeThen_cases s go <;> rw [e]
  · exact .wakes hs
  · exact h

/-- A point of `Wait()`, in an operation whose points are not INIT's. -/
theorem waitStep_pointMove {at_ : WaitPoint → Seq} {done : Result → State → State} (w : WaitPoint)
    (hs : s.seq ≠ .init .finish) (hat : ∀ w, at_ w ≠ .init .finish) (hsuccess : PointMove s (done .success s))
    (htimeout : PointMove s (done .timeout s.readClock)) : PointMove s (s.waitStep at_ done w) := by
  cases w with
  | start => exact wakeThen_pointMove (go := fun s => s.markStart.goto (at_ .poll)) hs (.readsClock _ _ (hat _))
  | poll =>
    exact wakeThen_pointMove (go := fun s => s.postPoll.goto (at_ .test)) hs
      (.composes _ 1 _ fun e => absurd e (hat _))
  | test => exact .ite (.goes (hat _)) hsuccess
  | time => exact .ite htimeout (.readsClock s.t0 _ (hat _))

end

/-! The operations, point by point. -/

theorem execInit_pointMove (s : State) : OutPointMove s (execInit s) := by
  unfold execInit
  split
  · exact outPointMove_next (.accepts _ nofun)
  · exact outPointMove_next .configures
  · exact outPointMove_next (.posts _ fun _ => rfl)
  next hs => exact outPointMove_next (.finishesInit hs)
  · exact outPointMove_refused _

theorem execSleep_pointMove (s : State) : OutPointMove s (execSleep s) := by
  unfold execSleep
  split
  · exact outPointMove_begin (.ite (.answersAtOnce _) (.accepts _ nofun))
  · exact outPointMove_next (.posts _ nofun)
  · exact outPointMove_next (.responds _ _ _)
  · exact outPointMove_refused _

theorem execWait_pointMove (s : State) : OutPointMove s (execWait s) := by
  unfold execWait
  split
  · exact outPointMove_begin (.accepts _ nofun)
  next hs =>
    exact outPointMove_next (waitStep_pointMove _ (by simp [hs]) nofun (.responds _ _ _) (.timesOut _))
  · exact outPointMove_refused _

theorem execGetStatus_pointMove (s : State) : OutPointMove s (execGetStatus s) := by
  unfold execGetStatus
  split
  · exact outPointMove_begin (.accepts _ nofun)
  next hs => exact outPointMove_next (wakeThen_pointMove (by simp [hs]) (.composes _ 1 _ nofun))
  · exact outPointMove_next (.responds _ _ _)
  · exact outPointMove_refused _

theorem execSetStatus_pointMove (v : Byte) (s : State) : OutPointMove s (execSetStatus v s) := by
  unfold execSetStatus
  split
  · exact outPointMove_begin (.accepts _ nofun)
  next hs => exact outPointMove_next (wakeThen_pointMove (by simp [hs]) (.goes nofun))
  · exact outPointMove_next (.posts _ nofun)
  · exact outPointMove_next (.posts _ nofun)
  next hs =>
    exact outPointMove_next (waitStep_pointMove _ (by simp [hs]) nofun (.responds _ _ _) (.timesOut _))
  · exact outPointMove_refused _

theorem execErase_pointMove (offset length : Operand) (s : State) : OutPointMove s (execErase offset length s) := by
  unfold execErase
  split
  · exact outPointMove_begin (.ite (.answersAtOnce _) (.accepts _ nofun))
  next hs => exact outPointMove_next (wakeThen_pointMove (by simp [hs]) (.works _ _ s.chunk s.idx _ nofun))
  · exact outPointMove_next (.goes nofun)
  · exact outPointMove_next (.ite (.goes nofun) (.responds _ _ _))
  · exact outPointMove_next (.ite (.responds _ _ _) (.posts _ nofun))
  · exact outPointMove_next (.posts _ nofun)
  next hs =>
    exact outPointMove_next
      (waitStep_pointMove _ (by simp [hs]) nofun (.works _ _ s.chunk s.idx _ nofun) (.timesOut _))
  · exact outPointMove_refused _

theorem execWrite_pointMove (data : Option (List Byte)) (offset length : Operand) (s : State) :
    OutPointMove s (execWrite data offset length s) := by
  unfold execWrite
  split
  · exact outPointMove_begin (.ite (.answersAtOnce _) (.accepts _ nofun))
  next hs => exact outPointMove_next (wakeThen_pointMove (by simp [hs]) (.works _ _ s.chunk _ _ nofun))
  · exact outPointMove_next (.ite (.works s.cur s.rem _ s.idx _ nofun) (.goes nofun))
  next hs =>
    exact outPointMove_next (waitStep_pointMove _ (by simp [hs]) nofun (.goes nofun) (.timesOut _))
  · exact outPointMove_next (.posts _ nofun)
  · exact outPointMove_next (.posts _ nofun)
  · exact outPointMove_next (.works _ _ s.chunk _ _ nofun)
  next hs =>
    exact outPointMove_next (waitStep_pointMove _ (by simp [hs]) nofun (.responds _ _ _) (.timesOut _))
  · exact outPointMove_refused _

theorem execRead_pointMove (offset length : Operand) (s : State) : OutPointMove s (execRead offset length s) := by
  unfold execRead
  split
  · exact outPointMove_begin (.ite (.answersAtOnce _) (.accepts _ nofun))
  next hs => exact outPointMove_next (wakeThen_pointMove (by simp [hs]) (.goes nofun))
  · exact outPointMove_next (.composes _ _ _ nofun)
  · exact outPointMove_next (.responds _ _ _)
  · exact outPointMove_refused _

theorem execGetJedecId_pointMove (s : State) : OutPointMove s (execGetJedecId s) := by
  unfold execGetJedecId
  split
  · exact outPointMove_begin (.accepts _ nofun)
  next hs => exact outPointMove_next (wakeThen_pointMove (by simp [hs]) (.goes nofun))
  · exact outPointMove_next (.composes _ _ _ nofun)
  · exact outPointMove_next (.responds _ _ _)
  · exact outPointMove_refused _

theorem execGetUniqueId_pointMove (s : State) : OutPointMove s (execGetUniqueId s) := by
  unfold execGetUniqueId
  split
  · exact outPointMove_begin (.accepts _ nofun)
  next hs => exact outPointMove_next (wakeThen_pointMove (by simp [hs]) (.goes nofun))
  · exact outPointMove_next (.composes _ _ _ nofun)
  · exact outPointMove_next (.responds _ _ _)
  · exact outPointMove_refused _

/-- Every next state of a host operation is reached by the move of a point. -/
theorem operation_pointMove {i : Instr} {s t : State} (hi : i.isOperation = true) (h : exec i s = .next t) :
    PointMove s t := by
  cases i with
  | init => exact execInit_pointMove s t h
  | sleep => exact execSleep_pointMove s t h
  | wait => exact execWait_pointMove s t h
  | getStatus => exact execGetStatus_pointMove s t h
  | setStatus v => exact execSetStatus_pointMove v s t h
  | erase o n => exact execErase_pointMove o n s t h
  | write d o n => exact execWrite_pointMove d o n s t h
  | read o n => exact execRead_pointMove o n s t h
  | getJedecId => exact execGetJedecId_pointMove s t h
  | getUniqueId => exact execGetUniqueId_pointMove s t h
  | _ => cases hi

/-- What a point adds to the trace: nothing, `BusInit`, or one clock read (R27). -/
theorem PointMove.trace {s t : State} (h : PointMove s t) :
    t.trace = s.trace ∨ ∃ e, t.trace = s.trace ++ [e] ∧ ∀ m r, e ≠ .frame m r := by
  cases h with
  | configures => exact .inr ⟨.busInit, rfl, nofun⟩
  | readsClock => exact .inr ⟨.now s.readClock.clock, rfl, nofun⟩
  | timesOut => exact .inr ⟨.now s.readClock.clock, rfl, nofun⟩
  | _ => exact .inl rfl

/-- The ways a step answers a next state: nothing to do, a sent frame, or the move of a point with no composed frame, which
after a request that is read starts from IDLE. -/
theorem step_moves {s t : State} (h : step s = .next t) :
    t = s ∨ (∃ b i, s.frame = some b ∧ decodeFrame b = .ok i ∧ exec i s = .next t) ∨
    (∃ requests req, s.frame = none ∧ PointMove { s with requests := requests, req := req } t) := by
  obtain ⟨b, i, hf, hd, he⟩ | ⟨-, -, -, rfl⟩ | ⟨r, rest, i, hf, -, -, hd, he⟩ | ⟨r, i, hf, -, -, hd, he⟩ := step_next h
  · exact .inr (.inl ⟨b, i, hf, hd, he⟩)
  · exact .inl rfl
  · exact .inr (.inr ⟨rest, some r, hf, operation_pointMove (decodeRequest_isOperation hd) he⟩)
  · exact .inr (.inr ⟨s.requests, s.req, hf, operation_pointMove (decodeRequest_isOperation hd) he⟩)

/-- Settles O51: a frame is one event, and a point adds at most one. -/
theorem stepAddsAtMostOneEvent : Obligations.StepAddsAtMostOneEvent := by
  intro s t h
  obtain rfl | ⟨b, i, -, hd, he⟩ | ⟨requests, req, -, hm⟩ := step_moves h
  · exact .inl rfl
  · obtain ⟨-, rfl⟩ := (wire_next (decodeFrame_isOperation hd)).1 he
    exact .inr ⟨_, rfl⟩
  · exact hm.trace.imp_right fun ⟨e, ht, _⟩ => ⟨e, ht⟩

/-! ### The power mirror -/

/-- The last power frame of a longer trace (R22). -/
theorem lastPower_append (tr : List Event) (e : Event) : lastPower (tr ++ [e]) = (powerSaid e).or (lastPower tr) := by
  cases h : powerSaid e <;> simp [lastPower, List.filterMap_append, h]

/-- The mirror after a command is what its frame says, else what it was. -/
theorem powerAfter_eq_powerSaid {i : Instr} (hi : i.isOperation = false) (m : List Byte) (pd : Bool) :
    powerAfter i pd = (powerSaid (.frame ((encodeFrame i).getD []) m)).getD pd := by
  cases i <;> simp [Instr.isOperation, powerAfter, powerSaid, encodeFrame, encode] at hi ⊢

/-- An event that is no frame says nothing about the power. -/
theorem powerSaid_of_ne_frame {e : Event} (h : ∀ m r, e ≠ .frame m r) : powerSaid e = none := by
  cases e with
  | frame m r => exact absurd rfl (h m r)
  | _ => rfl

theorem PointMove.lastPower {s t : State} (h : PointMove s t) : lastPower t.trace = lastPower s.trace := by
  obtain ht | ⟨e, ht, he⟩ := h.trace
  · rw [ht]
  · rw [ht, lastPower_append, powerSaid_of_ne_frame he, Option.none_or]

/-- The frame of a release is the only frame that clears the mirror, that of a power-down the only one that sets it. -/
theorem powerAfter_ne {i : Instr} {pd : Bool} (h : powerAfter i pd ≠ pd) :
    (i = .releasePowerDown ∧ powerAfter i pd = false) ∨ (i = .powerDown ∧ powerAfter i pd = true) := by
  cases i with
  | releasePowerDown => exact .inl ⟨rfl, rfl⟩
  | powerDown => exact .inr ⟨rfl, rfl⟩
  | _ => exact absurd rfl h

/-- A sent frame moves the mirror as it says, and the one INIT composed is a release frame. -/
theorem PowerMirror.frame {i : Instr} {s : State} (hs : PowerMirror s) (hi : i.isOperation = false)
    (hf : s.seq = .init .finish → i = .releasePowerDown) (st : Byte) :
    PowerMirror { s.transmit i with poweredDown := powerAfter i s.poweredDown, st := st } := by
  obtain ⟨hlast, hinited, -⟩ := hs
  simp only [PowerMirror, transmit_trace, transmit_inited, transmit_seq, transmit_frame, lastPower_append,
    powerAfter_eq_powerSaid hi (s.transmit i).miso]
  refine ⟨fun b hb => ?_, fun h => ?_, fun h => .inr ⟨trivial, ?_⟩⟩
  · generalize powerSaid _ = said at hb ⊢
    cases said with
    | none => exact hlast b hb
    | some c => exact Option.some.inj hb
  · rw [Option.isSome_or, hinited h, Bool.or_true]
  · obtain rfl := hf h
    rfl

/-- `inited` moves at INIT's last point alone. -/
theorem PointMove.inited {s t : State} (h : PointMove s t) : t.inited = s.inited ∨ s.seq = .init .finish := by
  cases h with
  | finishesInit hs => exact .inr hs
  | _ => exact .inl rfl

/-- INIT comes to its last point with its release frame composed. -/
theorem PointMove.frame_of_finish {s t : State} (h : PointMove s t) (ht : t.seq = .init .finish) :
    t.frame = some [0xAB#8] := by
  cases h with
  | composes j n k hk =>
    obtain rfl := hk ht
    rfl
  | wakes hs => exact absurd ht hs
  | accepts k hk => exact absurd ht hk
  | works c r ch x k hk => exact absurd ht hk
  | readsClock t0 k hk => exact absurd ht hk
  | _ => cases ht

/-- No point writes the mirror. -/
theorem PointMove.poweredDown {s t : State} (h : PointMove s t) : t.poweredDown = s.poweredDown := by
  cases h <;> rfl

/-- A point keeps the mirror; INIT ends only after its release frame was sent. -/
theorem PowerMirror.point {s t : State} (hs : PowerMirror s) (hf : s.frame = none) (h : PointMove s t) :
    PowerMirror t := by
  obtain ⟨hlast, hinited, hfinish⟩ := hs
  refine ⟨fun b hb => ?_, fun hi => ?_, fun hq => .inl (h.frame_of_finish hq)⟩
  · exact h.poweredDown.trans (hlast b (h.lastPower ▸ hb))
  · rw [h.lastPower]
    obtain e | hq := h.inited
    · exact hinited (e.symm.trans hi)
    · obtain hab | ⟨-, hsome⟩ := hfinish hq
      · cases hf.symm.trans hab
      · exact hsome

/-- Every step keeps the mirror (R22). -/
theorem step_powerMirror {s t : State} (hs : PowerMirror s) (h : step s = .next t) : PowerMirror t := by
  obtain rfl | ⟨b, i, hf, hd, he⟩ | ⟨requests, req, hf, hm⟩ := step_moves h
  · exact hs
  · obtain ⟨-, rfl⟩ := (wire_next (decodeFrame_isOperation hd)).1 he
    refine hs.frame (decodeFrame_isOperation hd) (fun hq => ?_) _
    have ⟨_, _, hfinish⟩ := hs
    obtain hab | ⟨hnone, -⟩ := hfinish hq
    · obtain rfl := Option.some.inj (hf.symm.trans hab)
      exact (Except.ok.inj hd).symm
    · cases hf.symm.trans hnone
  · exact .point (s := { s with requests := requests, req := req }) hs hf hm

/-- Settles O26: the mirror is what the last power frame said, and INIT's release frame is one. -/
theorem powerMirrorIsKept : Obligations.PowerMirrorIsKept := by
  refine ⟨fun s t => step_powerMirror, fun s ⟨hlast, hinited, _⟩ hi => ?_⟩
  obtain ⟨b, hb⟩ := Option.isSome_iff_exists.1 (hinited hi)
  rw [hlast b hb, hb, Option.some.injEq]

/-- Settles O27: no point writes the flag, and a wire command that moves it has sent `[0xAB]` or `[0xB9]`. -/
theorem powerFlagMovesOnlyWithItsFrames : Obligations.PowerFlagMovesOnlyWithItsFrames := by
  intro s t h hne
  obtain rfl | ⟨b, i, hf, hd, he⟩ | ⟨requests, req, -, hm⟩ := step_moves h
  · exact absurd rfl hne
  · obtain ⟨-, rfl⟩ := (wire_next (decodeFrame_isOperation hd)).1 he
    have hb := encodeFrame_of_decodeFrame hd
    obtain ⟨rfl, hpd⟩ | ⟨rfl, hpd⟩ := powerAfter_ne hne
    · exact .inl ⟨hf.trans hb.symm, hpd⟩
    · exact .inr ⟨hf.trans hb.symm, hpd⟩
  · exact absurd hm.poweredDown hne

end Sys2Proof.Machine
end

section
/-! PROOFS. The sequencer does not depend on the chip (R33): a host operation commutes with the replacement of the chip, and
a wire command that an oracle answers agrees up to it. -/

namespace Sys2Proof.Machine

/-! ### Another chip -/

/-- The same sequencer with another chip and other busy times to come. -/
def State.withChip (c : Chip) (q : Source Nat) (s : State) : State := { s with chip := c, cycles := q }

/-- The outcome with another chip in its next state. -/
def outWithChip (c : Chip) (q : Source Nat) : Out → Out
  | .next t => .next (t.withChip c q)
  | .fault f => .fault f
  | .refused r => .refused r

/-- The outcomes are the same but for the chip of a next state (R33). -/
def SameButChip (o o' : Out) : Prop :=
  (∀ t, o = .next t → ∃ c q, o' = .next { t with chip := c, cycles := q }) ∧ (∀ f, o = .fault f → o' = .fault f) ∧
    ∀ r, o = .refused r → o' = .refused r

theorem sameButChip_next {t t' : State} (h : t' = t.withChip t'.chip t'.cycles) :
    SameButChip (.next t) (.next t') := by
  refine ⟨?_, fun _ e => (nomatch e), fun _ e => (nomatch e)⟩
  rintro _ ⟨⟩
  exact ⟨_, _, congrArg _ h⟩

theorem sameButChip_outWithChip (c : Chip) (q : Source Nat) (o : Out) : SameButChip o (outWithChip c q o) := by
  cases o with
  | next t => exact sameButChip_next rfl
  | fault f => exact ⟨fun _ e => (nomatch e), fun _ e => e, fun _ e => (nomatch e)⟩
  | refused r => exact ⟨fun _ e => (nomatch e), fun _ e => (nomatch e), fun _ e => e⟩

section
variable (c : Chip) (q : Source Nat) (s : State)

@[simp] theorem withChip_seq : (s.withChip c q).seq = s.seq := rfl
@[simp] theorem withChip_frame : (s.withChip c q).frame = s.frame := rfl
@[simp] theorem withChip_req : (s.withChip c q).req = s.req := rfl
@[simp] theorem withChip_requests : (s.withChip c q).requests = s.requests := rfl
@[simp] theorem withChip_inited : (s.withChip c q).inited = s.inited := rfl
@[simp] theorem withChip_transportReady : (s.withChip c q).transportReady = s.transportReady := rfl
@[simp] theorem withChip_rx : (s.withChip c q).rx = s.rx := rfl

theorem ite_withChip {p : Prop} [Decidable p] {t t' u u' : State} (ht : t' = t.withChip c q)
    (hu : u' = u.withChip c q) : (if p then t' else u') = (if p then t else u).withChip c q := by
  split
  · exact ht
  · exact hu

theorem begin_withChip {go : State → State} (h : ∀ v, go (v.withChip c q) = (go v).withChip c q) :
    (s.withChip c q).begin go = outWithChip c q (s.begin go) := by
  by_cases hs : s.inited = true
  · rw [begin_of_inited hs, begin_of_inited (s := s.withChip c q) hs]
    exact congrArg _ (h s.accept)
  · simp only [State.begin, withChip_inited, hs]
    rfl

theorem wakeThen_withChip {go : State → State} (h : ∀ v, go (v.withChip c q) = (go v).withChip c q) :
    (s.withChip c q).wakeThen go = (s.wakeThen go).withChip c q :=
  ite_withChip c q rfl (h s)

theorem waitStep_withChip (at_ : WaitPoint → Seq) {done : Result → State → State} (w : WaitPoint)
    (h : ∀ r v, done r (v.withChip c q) = (done r v).withChip c q) :
    (s.withChip c q).waitStep at_ done w = (s.waitStep at_ done w).withChip c q := by
  cases w with
  | start => exact wakeThen_withChip c q s (go := fun s => s.markStart.goto (at_ .poll)) fun _ => rfl
  | poll => exact wakeThen_withChip c q s (go := fun s => s.postPoll.goto (at_ .test)) fun _ => rfl
  | test => exact ite_withChip c q rfl (h .success s)
  | time => exact ite_withChip c q (h .timeout s.readClock) rfl

theorem eraseUnitDone_withChip (u : EraseSize) (r : Result) :
    eraseUnitDone u r (s.withChip c q) = (eraseUnitDone u r s).withChip c q := by
  cases r <;> rfl

theorem writeChunkReady_withChip (r : Result) :
    writeChunkReady r (s.withChip c q) = (writeChunkReady r s).withChip c q := by
  cases r <;> rfl

/-! The operations, point by point. -/

theorem execInit_withChip : execInit (s.withChip c q) = outWithChip c q (execInit s) := by
  unfold execInit
  rw [withChip_seq]
  split <;> rfl

theorem execSleep_withChip : execSleep (s.withChip c q) = outWithChip c q (execSleep s) := by
  unfold execSleep
  rw [withChip_seq]
  split
  · exact begin_withChip c q s fun _ => ite_withChip c q rfl rfl
  all_goals rfl

theorem execWait_withChip : execWait (s.withChip c q) = outWithChip c q (execWait s) := by
  unfold execWait
  rw [withChip_seq]
  split
  · exact begin_withChip c q s fun _ => rfl
  · exact congrArg _ (waitStep_withChip c q s _ _ fun _ _ => rfl)
  · rfl

theorem execGetStatus_withChip : execGetStatus (s.withChip c q) = outWithChip c q (execGetStatus s) := by
  unfold execGetStatus
  rw [withChip_seq]
  split
  · exact begin_withChip c q s fun _ => rfl
  · exact congrArg _ (wakeThen_withChip c q s fun _ => rfl)
  all_goals rfl

theorem execSetStatus_withChip (v : Byte) : execSetStatus v (s.withChip c q) = outWithChip c q (execSetStatus v s) := by
  unfold execSetStatus
  rw [withChip_seq]
  split
  · exact begin_withChip c q s fun _ => rfl
  · exact congrArg _ (wakeThen_withChip c q s fun _ => rfl)
  · rfl
  · rfl
  · exact congrArg _ (waitStep_withChip c q s _ _ fun _ _ => rfl)
  · rfl

theorem execErase_withChip (offset length : Operand) :
    execErase offset length (s.withChip c q) = outWithChip c q (execErase offset length s) := by
  unfold execErase
  rw [withChip_seq]
  split
  · exact begin_withChip c q s fun _ => ite_withChip c q rfl rfl
  · exact congrArg _ (wakeThen_withChip c q s fun _ => rfl)
  · rfl
  · exact congrArg _ (ite_withChip c q rfl rfl)
  · exact congrArg _ (ite_withChip c q rfl rfl)
  · rfl
  · exact congrArg _ (waitStep_withChip c q s _ _ fun r v => eraseUnitDone_withChip c q v _ r)
  · rfl

theorem execWrite_withChip (data : Option (List Byte)) (offset length : Operand) :
    execWrite data offset length (s.withChip c q) = outWithChip c q (execWrite data offset length s) := by
  unfold execWrite
  rw [withChip_seq]
  split
  · exact begin_withChip c q s fun _ => ite_withChip c q rfl rfl
  · exact congrArg _ (wakeThen_withChip c q s fun _ => rfl)
  · exact congrArg _ (ite_withChip c q rfl rfl)
  · exact congrArg _ (waitStep_withChip c q s _ _ fun r v => writeChunkReady_withChip c q v r)
  · rfl
  · rfl
  · rfl
  · exact congrArg _ (waitStep_withChip c q s _ _ fun _ _ => rfl)
  · rfl

theorem execRead_withChip (offset length : Operand) :
    execRead offset length (s.withChip c q) = outWithChip c q (execRead offset length s) := by
  unfold execRead
  rw [withChip_seq]
  split
  · exact begin_withChip c q s fun _ => ite_withChip c q rfl rfl
  · exact congrArg _ (wakeThen_withChip c q s fun _ => rfl)
  all_goals rfl

theorem execGetJedecId_withChip : execGetJedecId (s.withChip c q) = outWithChip c q (execGetJedecId s) := by
  unfold execGetJedecId
  rw [withChip_seq]
  split
  · exact begin_withChip c q s fun _ => rfl
  · exact congrArg _ (wakeThen_withChip c q s fun _ => rfl)
  all_goals rfl

theorem execGetUniqueId_withChip : execGetUniqueId (s.withChip c q) = outWithChip c q (execGetUniqueId s) := by
  unfold execGetUniqueId
  rw [withChip_seq]
  split
  · exact begin_withChip c q s fun _ => rfl
  · exact congrArg _ (wakeThen_withChip c q s fun _ => rfl)
  all_goals rfl

/-- A host operation neither reads nor writes the chip. -/
theorem operation_withChip {i : Instr} (hi : i.isOperation = true) :
    exec i (s.withChip c q) = outWithChip c q (exec i s) := by
  cases i with
  | init => exact execInit_withChip c q s
  | sleep => exact execSleep_withChip c q s
  | wait => exact execWait_withChip c q s
  | getStatus => exact execGetStatus_withChip c q s
  | setStatus v => exact execSetStatus_withChip c q s v
  | erase o n => exact execErase_withChip c q s o n
  | write d o n => exact execWrite_withChip c q s d o n
  | read o n => exact execRead_withChip c q s o n
  | getJedecId => exact execGetJedecId_withChip c q s
  | getUniqueId => exact execGetUniqueId_withChip c q s
  | _ => cases hi

end

/-! ### Wire commands -/

/-- The state after the frame of a command (`wire_next`). -/
def State.sent (s : State) (i : Instr) : State :=
  { s.transmit i with
    poweredDown := powerAfter i s.poweredDown, st := statusAfter i (s.transmit i).miso s.st }

/-- A wire command sends its frame if the bus is configured, and faults if not (R121, R254; log 21). -/
theorem exec_wire {i : Instr} (s : State) (hi : i.isOperation = false) : exec i s = s.onBus (s.sent i) := by
  cases i <;> simp only [Instr.isOperation, reduceCtorEq] at hi <;> rfl

/-- A command that an oracle answers does not see the chip. -/
theorem wire_sameButChip {i : Instr} (hi : i.isOperation = false) (c : Chip) (q : Source Nat) {s : State}
    (hs : s.answers = .oracle) : SameButChip (exec i s) (exec i (s.withChip c q)) := by
  rw [exec_wire s hi, exec_wire (s.withChip c q) hi]
  by_cases hb : s.transportReady = true
  · have hmiso : (s.withChip c q).received i = s.received i := by
      funext n
      rw [State.received_oracle hs, State.received_oracle (s := s.withChip c q) hs, withChip_rx]
    rw [onBus_next.2 ⟨hb, rfl⟩, onBus_next (s := s.withChip c q).2 ⟨hb, rfl⟩]
    refine sameButChip_next ?_
    simp only [State.sent, State.transmit, hmiso]
    rfl
  · simp only [State.onBus, withChip_transportReady, hb]
    exact sameButChip_outWithChip c q _

/-- Every instruction agrees up to the chip while an oracle answers. -/
theorem exec_sameButChip (i : Instr) (c : Chip) (q : Source Nat) {s : State} (hs : s.answers = .oracle) :
    SameButChip (exec i s) (exec i (s.withChip c q)) := by
  cases hi : i.isOperation with
  | false => exact wire_sameButChip hi c q hs
  | true => exact operation_withChip c q s hi ▸ sameButChip_outWithChip c q _

/-! ### The step -/

/-- What is fetched with another chip. -/
def Fetch.withChip (c : Chip) (q : Source Nat) : Fetch → Fetch
  | .run i s => .run i (s.withChip c q)
  | .idle => .idle
  | .refuse r => .refuse r

/-- What a step runs does not depend on the chip. -/
theorem fetch_withChip (c : Chip) (q : Source Nat) (s : State) : (s.withChip c q).fetch = s.fetch.withChip c q := by
  unfold State.fetch
  simp only [withChip_frame, withChip_seq, withChip_requests, withChip_req]
  repeat' split
  all_goals rfl

/-- Reading a request does not change who answers. -/
theorem fetch_answers {s t : State} {i : Instr} (h : s.fetch = .run i t) : t.answers = s.answers := by
  unfold State.fetch at h
  repeat' split at h
  all_goals cases h
  all_goals rfl

/-- Settles O21: what is fetched is the same, and running it agrees up to the chip. -/
theorem sequencerIgnoresTheChip : Obligations.SequencerIgnoresTheChip := by
  intro s c q hs
  show SameButChip (step s) (step (s.withChip c q))
  unfold step
  rw [fetch_withChip]
  cases hf : s.fetch with
  | run i t => exact exec_sameButChip i c q ((fetch_answers hf).trans hs)
  | idle => exact sameButChip_outWithChip c q (.next s)
  | refuse r => exact sameButChip_outWithChip c q (.refused r)

end Sys2Proof.Machine
end

section
/-! PROOFS. The working registers of a coherent state (R25). -/

namespace Sys2Proof.Machine

theorem exceedsFlash_eq_false {size : Nat} {o n : Operand} :
    exceedsFlash size o n = false ↔ o.toNat + n.toNat ≤ size := by
  simp [exceedsFlash]

/-- What ERASE's checks let pass (R162, R163). -/
theorem eraseRejects_eq_false {size : Nat} {o n : Operand} :
    eraseRejects size o n = false ↔
      o.toNat + n.toNat ≤ size ∧ o.toNat % sectorSize = 0 ∧ n.toNat % sectorSize = 0 := by
  simp [eraseRejects, exceedsFlash_eq_false, misaligned]

/-- The chunk of R183 holds at least one byte while bytes remain, and stays inside its page. -/
theorem chunkSize_bounds {cur rem : Nat} (h : 0 < rem) :
    1 ≤ chunkSize cur rem ∧ chunkSize cur rem ≤ rem ∧ cur % 256 + chunkSize cur rem ≤ 256 := by
  simp only [chunkSize, pageSize]
  omega

/-- The request of the running operation, and how far it has come. -/
theorem Coherent.operationAt {s : State} (h : Coherent s) {k : Seq} (hs : s.seq = k) (hk : k ≠ .idle) :
    ∃ i, OperationAt s i k := by
  subst hs
  obtain ⟨-, i, -, -, hat⟩ := h.running hk
  exact ⟨i, hat⟩

/-- After the wake, ERASE has `cur` and `rem` inside the request (R165, R166). -/
theorem EraseProgress.sum {s : State} {o n : Operand} {k : ErasePoint} (h : EraseProgress s o n k) (hk : k ≠ .wake) :
    s.cur + s.rem = o.toNat + n.toNat := by
  cases k with
  | wake => exact absurd rfl hk
  | _ => exact h.1

/-- At an erase command a whole unit is left and `cur` is aligned to it (R164). -/
theorem EraseProgress.unit {s : State} {o n : Operand} {u : EraseSize} (h : EraseProgress s o n (.cmd u)) :
    s.cur % u.bytes = 0 ∧ u.bytes ≤ s.rem := h.2.2.2

/-- After the wake, WRITE has `cur`, `idx` and `rem` inside the request (R184). -/
theorem WriteProgress.sum {s : State} {o n : Operand} {k : WritePoint} (h : WriteProgress s o n k) (hk : k ≠ .wake) :
    s.cur = o.toNat + s.idx ∧ s.idx + s.rem = n.toNat := by
  cases k with
  | wake => exact absurd rfl hk
  | chunks => exact h
  | _ => exact ⟨h.1, h.2.1⟩

/-- The points from the wait before a chunk to its advance. -/
def WritePoint.inChunk : WritePoint → Bool
  | .waitChunk _ => true
  | .wen => true
  | .cmd => true
  | .advance => true
  | _ => false

/-- At a point inside a chunk, bytes remain and the chunk is that of R183. -/
theorem WriteProgress.chunk {s : State} {o n : Operand} {k : WritePoint} (h : WriteProgress s o n k)
    (hk : k.inChunk = true) : 0 < s.rem ∧ s.chunk = chunkSize s.cur s.rem := by
  cases k with
  | waitChunk w => exact h.2.2
  | wen => exact h.2.2
  | cmd => exact h.2.2
  | advance => exact h.2.2
  | _ => cases hk

theorem EraseSize.bytes_pos (u : EraseSize) : 0 < u.bytes := by
  cases u <;> decide

/-- Settles O59: the progress of the running ERASE or WRITE bounds its registers. -/
theorem workingRegistersStayInRange : Obligations.WorkingRegistersStayInRange := by
  intro s h
  have hsize := h.sizeBounded
  refine ⟨fun k hs hk => ?_, fun u hs => ?_, fun k hs hk => ?_, fun hs => ?_⟩
  · obtain ⟨_, o, n, -, hacc, hat⟩ := h.operationAt hs nofun
    have := hat.sum hk
    have := (eraseRejects_eq_false.1 hacc).1
    omega
  · obtain ⟨_, o, n, -, hacc, hat⟩ := h.operationAt hs nofun
    have := hat.sum nofun
    have := (eraseRejects_eq_false.1 hacc).1
    obtain ⟨hcur, hrem⟩ := hat.unit
    have := u.bytes_pos
    omega
  · obtain ⟨_, d, o, n, -, -, hacc, hat⟩ := h.operationAt hs nofun
    obtain ⟨hcur, hidx⟩ := hat.sum hk
    have := exceedsFlash_eq_false.1 hacc
    omega
  · obtain ⟨k, hk, hs⟩ : ∃ k : WritePoint, k.inChunk = true ∧ s.seq = .write k := by
      obtain ⟨w, hs⟩ | hs | hs | hs := hs <;> exact ⟨_, rfl, hs⟩
    obtain ⟨_, d, o, n, -, -, hacc, hat⟩ := h.operationAt hs nofun
    obtain ⟨hcur, hidx⟩ := hat.sum (by rintro rfl; cases hk)
    obtain ⟨hrem, hchunk⟩ := hat.chunk hk
    obtain ⟨hpos, hle, hpage⟩ := chunkSize_bounds (cur := s.cur) hrem
    have := exceedsFlash_eq_false.1 hacc
    rw [← hchunk] at hpos hle hpage
    omega

end Sys2Proof.Machine
end

section
/-! PROOFS. The registers of the reference chip, frame by frame (20_memory.md section 9, G3; logs 10, 11, 25, 26). -/

namespace Sys2Proof.Machine

/-! ### A chip that obeys -/

section
variable (c : Chip) (size n : Nat)

@[simp] theorem Chip.begin_sr : (c.begin n).sr = c.sr := rfl

/-- A cycle of no frame is over at once, and the latch with it; a longer one starts under the latch. -/
theorem Chip.begin_wel {c : Chip} (h : c.wel = true) : (c.begin n).wel = decide (n ≠ 0) := by
  simp [Chip.begin, h]

/-- A status write under the latch changes the writable bits (R32). -/
theorem Chip.obey_writeStatusRegister_sr {c : Chip} (h : c.wel = true) (v : Byte) (k : Nat) :
    (c.obey size n (.writeStatusRegister v)).sr.getLsbD k =
      if c.srMask.getLsbD k then v.getLsbD k else c.sr.getLsbD k := by
  simp only [Chip.obey, h, if_true, Chip.begin_sr, BitVec.getLsbD_or, BitVec.getLsbD_and, BitVec.getLsbD_not]
  by_cases hk : k < 8
  · cases c.srMask.getLsbD k <;> simp [hk]
  · simp [BitVec.getLsbD_of_ge _ k (not_lt.1 hk)]

/-- No other command writes the stored status bits, and none without the latch. -/
theorem Chip.obey_sr {c : Chip} {i : Instr} (h : (∀ v, i ≠ .writeStatusRegister v) ∨ c.wel = false) :
    (c.obey size n i).sr = c.sr := by
  cases i with
  | writeStatusRegister v =>
    obtain h | h := h
    · exact absurd rfl (h v)
    · simp [Chip.obey, h]
  | pageProgram a p => simp only [Chip.obey]; split <;> rfl
  | sectorErase4k a => simp only [Chip.obey]; split <;> rfl
  | blockErase32k a => simp only [Chip.obey]; split <;> rfl
  | _ => rfl

/-- The commands that start a cycle under the latch: a status write, a program, and the two erases (R76). -/
def LatchedCommand (i : Instr) : Prop :=
  (∃ v, i = .writeStatusRegister v) ∨ (∃ a p, i = .pageProgram a p) ∨ (∃ a, i = .sectorErase4k a) ∨
    ∃ a, i = .blockErase32k a

/-- Under the latch such a command starts a cycle and writes nothing but the array and the status bits. -/
theorem Chip.obey_latched {c : Chip} {i : Instr} (h : c.wel = true) (hi : LatchedCommand i) :
    ∃ array sr, c.obey size n i = { c with array := array, sr := sr }.begin n := by
  obtain ⟨v, rfl⟩ | ⟨a, p, rfl⟩ | ⟨a, rfl⟩ | ⟨a, rfl⟩ := hi <;> exact ⟨_, _, if_pos h⟩

/-- Without the latch only WRITE ENABLE and POWER DOWN move a register (R76). -/
theorem Chip.obey_of_not_wel {c : Chip} {i : Instr} (h : c.wel = false) (he : i ≠ .writeEnable) (hp : i ≠ .powerDown) :
    c.obey size n i = c := by
  cases i with
  | writeEnable => exact absurd rfl he
  | powerDown => exact absurd rfl hp
  | _ => simp [Chip.obey, h]

/-- The reading commands and RELEASE POWER-DOWN move no register of a chip that is awake. -/
theorem Chip.obey_reading {c : Chip} {i : Instr} (h : (∃ a xs, i = .readData a xs) ∨ (∃ x, i = .readStatusRegister x) ∨
    (∃ xs, i = .jedecId xs) ∨ (∃ xs, i = .readUniqueId xs) ∨ i = .releasePowerDown) : c.obey size n i = c := by
  obtain ⟨a, xs, rfl⟩ | ⟨x, rfl⟩ | ⟨xs, rfl⟩ | ⟨xs, rfl⟩ | rfl := h <;> rfl

end

/-! ### What the chip answers -/

/-- Where the chip drives a byte, that byte is received. -/
theorem zipWith_getD_some (bytes : List Byte) {driven : List Byte} (h : driven.length ≤ bytes.length) :
    List.zipWith (fun b (o : Option Byte) => o.getD b) bytes (driven.map some) = driven := by
  rw [List.zipWith_map_right]
  exact List.map_zip_eq_zipWith (f := Prod.snd) ▸ List.map_snd_zip h

theorem State.received_chip {s : State} (h : s.answers = .chip) (i : Instr) (n : Nat) :
    s.received i n = List.zipWith (fun b (o : Option Byte) => o.getD b) (s.rx.ahead Config.freeRx n)
      (s.chip.reply s.flashSize i) := by
  simp [State.received, h]

section
variable {s : State}

/-- A chip that is awake answers a status read with its status, even while busy (R32, R141). -/
theorem sent_st_of_chip (h : s.answers = .chip) (ha : s.chip.asleep = false) (x : Byte) :
    (s.sent (.readStatusRegister x)).st = s.chip.status := by
  show (s.received (.readStatusRegister x) 2).getD 1 0 = _
  obtain ⟨b0, b1, hb⟩ := List.length_eq_two.1 (Source.ahead_length Config.freeRx s.rx 2)
  simp [s.received_chip h, Chip.reply, ha, hb]

/-- The answer slots of JEDEC ID (R206). -/
theorem sent_jedec_of_chip (h : s.answers = .chip) (hl : s.chip.listens = true) {xs : List Byte} (hx : xs.length = 3) :
    (s.sent (.jedecId xs)).miso.drop 1 = bytesBE 3 s.chip.jedec := by
  show (s.received (.jedecId xs) (xs.length + 1)).drop 1 = _
  rw [s.received_chip h, List.drop_zipWith]
  simp only [Chip.reply, hl, if_true, List.drop_one, List.tail_cons]
  exact zipWith_getD_some _ (by simp [hx])

/-- The answer slots of READ UNIQUE ID (R209). -/
theorem sent_unique_of_chip (h : s.answers = .chip) (hl : s.chip.listens = true) {xs : List Byte}
    (hx : xs.length = 12) : (s.sent (.readUniqueId xs)).miso.drop 5 = bytesBE 8 s.chip.uid := by
  show (s.received (.readUniqueId xs) (xs.length + 1)).drop 5 = _
  rw [s.received_chip h, List.drop_zipWith]
  simp only [Chip.reply, hl, if_true, List.drop_left' (show (quiet 5).length = 5 from rfl)]
  exact zipWith_getD_some _ (by simp [hx])

end

/-- A chip that is powered down is awake after `[0xAB]` alone. -/
theorem Chip.receive_asleep {c : Chip} (size n : Nat) (i : Instr) (hb : c.busyFor = 0) (ha : c.asleep = true) :
    c.receive size n i = { c with asleep := decide (i ≠ .releasePowerDown) } := by
  rw [Chip.receive_of_asleep size n i hb ha]
  by_cases hi : i = .releasePowerDown
  · simp [hi]
  · simp [hi, ← ha]

/-- Settles O60: the chip busy, powered down, or obeying; and what it answers. -/
theorem chipRegistersFollowTheReferenceChip : Obligations.ChipRegistersFollowTheReferenceChip := by
  intro s i hbus hi
  refine ⟨s.sent i, (exec_wire s hi).trans (onBus_next.2 ⟨hbus, rfl⟩), fun hb => Chip.receive_of_busy _ _ i hb,
    fun hb ha => Chip.receive_asleep _ _ i hb ha, fun hb ha => ?_, fun hans => ⟨?_, ?_, ?_⟩⟩
  · have hobey : (s.sent i).chip = s.chip.obey s.flashSize (s.cycles.peek Config.freeCycle 0) i :=
      Chip.receive_of_listens _ _ i (by simp [Chip.listens, Chip.busy, hb, ha])
    rw [hobey]
    refine ⟨?_, ?_, ?_, Chip.obey_sr _ _, fun hw hl => ?_, Chip.obey_of_not_wel _ _, Chip.obey_reading _ _⟩
    · rintro rfl; rfl
    · rintro rfl; rfl
    · rintro v rfl hw k
      exact Chip.obey_writeStatusRegister_sr _ _ hw v k
    · obtain ⟨array, sr, he⟩ := Chip.obey_latched s.flashSize (s.cycles.peek Config.freeCycle 0) hw hl
      rw [he]
      exact ⟨rfl, Chip.begin_wel _ hw, ha, rfl, rfl, rfl⟩
  · rintro x rfl ha
    rw [sent_st_of_chip hans ha]
    refine ⟨Chip.status_bit _ 0, Chip.status_bit _ 1, fun k h2 h8 => ?_⟩
    rw [Chip.status_bit, if_neg (by omega), if_neg (by omega), decide_eq_true h8, Bool.true_and]
  · rintro xs rfl hx hl
    exact sent_jedec_of_chip hans hl hx
  · rintro xs rfl hx hl
    exact sent_unique_of_chip hans hl hx

end Sys2Proof.Machine
end

section
/-! PROOFS. A coherent machine goes on (R25, R164, R254): every point of every operation lands on the next one with a legal
frame or none, a sent frame changes nothing the point depends on, and a request is accepted or refused as ordered. -/

namespace Sys2Proof

/-- The frame of a command whose bytes fit its format decodes to it (R82, R89). -/
theorem decodeFrame_of_encodeFrame {i : Instr} {m : List Byte} (hf : i.fitsFormat = true)
    (h : encodeFrame i = some m) : decodeFrame m = .ok i := by
  cases i with
  | writeStatusRegister v => cases h; exact decodeReg_ok.2 ⟨v, rfl, rfl⟩
  | pageProgram a p => cases h; exact decodeAddrData_ok.2 ⟨a, p, rfl, rfl, hf⟩
  | readData a xs => cases h; exact decodeAddrData_ok.2 ⟨a, xs, rfl, rfl, hf⟩
  | readStatusRegister x => cases h; exact decodeReg_ok.2 ⟨x, rfl, rfl⟩
  | sectorErase4k a => cases h; exact decodeAddr_ok.2 ⟨a, rfl, rfl⟩
  | readUniqueId xs => cases h; exact checked_ok.2 ⟨rfl, hf⟩
  | blockErase32k a => cases h; exact decodeAddr_ok.2 ⟨a, rfl, rfl⟩
  | jedecId xs => cases h; exact checked_ok.2 ⟨rfl, hf⟩
  | writeEnable => cases h; rfl
  | releasePowerDown => cases h; rfl
  | powerDown => cases h; rfl
  | _ => cases h

end Sys2Proof

namespace Sys2Proof.Machine

/-! ### The chip keeps the canonical form -/

theorem Chip.obey_wf (size n : Nat) {c : Chip} (i : Instr) (h : c.array.wf) : (c.obey size n i).array.wf := by
  cases i with
  | pageProgram a p =>
    simp only [Chip.obey]
    split
    · exact Memory.program_wf size _ h
    · exact h
  | sectorErase4k a =>
    simp only [Chip.obey]
    split
    · exact Memory.erase_wf _ _ h
    · exact h
  | blockErase32k a =>
    simp only [Chip.obey]
    split
    · exact Memory.erase_wf _ _ h
    · exact h
  | writeStatusRegister v =>
    simp only [Chip.obey]
    split <;> exact h
  | _ => exact h

theorem Chip.receive_wf (size n : Nat) {c : Chip} (i : Instr) (h : c.array.wf) : (c.receive size n i).array.wf := by
  by_cases hb : c.busyFor = 0
  · cases ha : c.asleep with
    | true =>
      rw [Chip.receive_asleep size n i hb ha]
      exact h
    | false =>
      rw [Chip.receive_of_listens size n i (by simp [Chip.listens, Chip.busy, hb, ha])]
      exact Chip.obey_wf size n i h
  · rw [Chip.receive_of_busy size n i hb]
    exact h

/-! ### What the progress of an operation depends on -/

/-- The registers that the progress of an operation speaks of. -/
def SameProgress (s t : State) : Prop :=
  t.flashSize = s.flashSize ∧ t.cur = s.cur ∧ t.rem = s.rem ∧ t.chunk = s.chunk ∧ t.idx = s.idx

theorem OperationAt.congr {s t : State} {i : Instr} {k : Seq} (hst : SameProgress s t) (h : OperationAt s i k) :
    OperationAt t i k := by
  obtain ⟨hsize, hcur, hrem, hchunk, hidx⟩ := hst
  cases k with
  | erase k =>
    obtain ⟨o, n, hi, hacc, hat⟩ := h
    refine ⟨o, n, hi, hsize ▸ hacc, ?_⟩
    cases k with
    | wake => trivial
    | _ => simpa only [EraseProgress, hcur, hrem] using hat
  | write k =>
    obtain ⟨d, o, n, hi, hd, hacc, hat⟩ := h
    refine ⟨d, o, n, hi, hd, hsize ▸ hacc, ?_⟩
    cases k with
    | wake => trivial
    | _ => simpa only [WriteProgress, hcur, hrem, hchunk, hidx] using hat
  | read k =>
    obtain ⟨o, n, hi, hacc⟩ := h
    exact ⟨o, n, hi, hsize ▸ hacc⟩
  | _ => exact h

/-! ### Landing on a point -/

/-- The state is at a point of `i`, and a composed frame is legal there. -/
def LandsAt (i : Instr) (t : State) : Prop :=
  OperationAt t i t.seq ∧
    ∀ m, t.frame = some m → frameFits t.seq m = true ∧ ∃ j, decodeFrame m = .ok j ∧ j.wellFormed = true

/-- The outcome is a next state at a point of `i`. -/
def Lands (i : Instr) (o : Out) : Prop := ∃ t, o = .next t ∧ LandsAt i t

section
variable {i : Instr} {s t : State}

theorem lands_next (h : LandsAt i t) : Lands i (.next t) := ⟨t, rfl, h⟩

theorem landsAt_of_no_frame (hf : t.frame = none) (hat : OperationAt t i t.seq) : LandsAt i t :=
  ⟨hat, fun _ hm => nomatch hf.symm.trans hm⟩

theorem LandsAt.ite {c : Prop} [Decidable c] {u : State} (ht : c → LandsAt i t) (hu : ¬c → LandsAt i u) :
    LandsAt i (if c then t else u) := by
  split
  next h => exact ht h
  next h => exact hu h

/-- Going to a point whose progress the registers have. -/
theorem landsAt_goto {k : Seq} (hf : s.frame = none) (hat : OperationAt s i k) : LandsAt i (s.goto k) :=
  landsAt_of_no_frame hf (hat.congr (t := s.goto k) ⟨rfl, rfl, rfl, rfl, rfl⟩)

/-- Returning a result (R225). -/
theorem landsAt_idle (hf : t.frame = none) (ht : t.seq = .idle) : LandsAt i t :=
  landsAt_of_no_frame hf (ht ▸ trivial)

/-- Composing the frame of a well-formed command that belongs to the point (R72, R160, R161, R186). -/
theorem landsAt_post {j : Instr} {m : List Byte} {k : Seq} (hj : encodeFrame j = some m) (hw : j.wellFormed = true)
    (hm : frameFits k m = true) (hat : OperationAt s i k) : LandsAt i ((s.post j).goto k) := by
  refine ⟨hat.congr (t := (s.post j).goto k) ⟨rfl, rfl, rfl, rfl, rfl⟩, fun m' hm' => ?_⟩
  obtain rfl := Option.some.inj (hj.symm.trans hm')
  exact ⟨hm, j, decodeFrame_of_encodeFrame (Instr.fitsFormat_of_wellFormed hw) hj, hw⟩

theorem wakeThen_landsAt {go : State → State} (hm : frameFits s.seq [0xAB#8] = true) (hat : OperationAt s i s.seq)
    (h : LandsAt i (go s)) : LandsAt i (s.wakeThen go) := by
  obtain ⟨-, e⟩ | ⟨-, e⟩ := wakeThen_cases s go <;> rw [e]
  · exact landsAt_post (j := .releasePowerDown) rfl rfl hm hat
  · exact h

/-- A point of `Wait()`, in an operation whose progress does not depend on the point (R148). -/
theorem waitStep_landsAt {at_ : WaitPoint → Seq} {done : Result → State → State} {w : WaitPoint} (hs : s.seq = at_ w)
    (hf : s.frame = none) (hm : ∀ w m, frameFits.waitFits w m = true → frameFits (at_ w) m = true)
    (hat : ∀ w, OperationAt s i (at_ w)) (hsuccess : LandsAt i (done .success s))
    (htimeout : LandsAt i (done .timeout s.readClock)) : LandsAt i (s.waitStep at_ done w) := by
  have hwake (hw : frameFits.waitFits w [0xAB#8] = true) : frameFits s.seq [0xAB#8] = true := hs ▸ hm w _ hw
  cases w with
  | start =>
    exact wakeThen_landsAt (go := fun s => s.markStart.goto (at_ .poll)) (hwake rfl) (hs ▸ hat _)
      (landsAt_goto hf ((hat _).congr ⟨rfl, rfl, rfl, rfl, rfl⟩))
  | poll =>
    exact wakeThen_landsAt (go := fun s => s.postPoll.goto (at_ .test)) (hwake rfl) (hs ▸ hat _)
      (landsAt_post rfl rfl (hm .test _ rfl) ((hat _).congr ⟨rfl, rfl, rfl, rfl, rfl⟩))
  | test => exact .ite (fun _ => landsAt_goto hf (hat _)) fun _ => hsuccess
  | time =>
    exact .ite (fun _ => htimeout) fun _ => landsAt_goto hf ((hat _).congr ⟨rfl, rfl, rfl, rfl, rfl⟩)

end

/-! ### The frames of ERASE and WRITE -/

theorem wireAddr_toNat (a : Nat) : (wireAddr a).toNat = a % 16777216 := rfl

/-- The erase command of an aligned unit is well formed (R160, R161, R164). -/
theorem EraseSize.command_wellFormed {a : Nat} {u : EraseSize} (h : a % u.bytes = 0) :
    (u.command a).wellFormed = true := by
  cases u <;> simp [EraseSize.command, EraseSize.bytes, Instr.wellFormed, Instr.fitsFormat, Instr.addressLegal,
    wireAddr_toNat, blockSize, sectorSize] at h ⊢ <;> omega

/-- The program command of a chunk of R183 is well formed (R186). -/
theorem pageProgram_wellFormed {cur rem idx : Nat} {d : List Byte} (hrem : 0 < rem) (hd : idx + rem = d.length) :
    (Instr.pageProgram (wireAddr cur) (slice d idx (chunkSize cur rem))).wellFormed = true := by
  obtain ⟨hpos, hle, hpage⟩ := chunkSize_bounds (cur := cur) hrem
  have hlen : (slice d idx (chunkSize cur rem)).length = chunkSize cur rem := by
    rw [slice, List.length_take, List.length_drop]
    omega
  rw [Instr.wellFormed_pageProgram, hlen, wireAddr_toNat]
  omega

/-! ### The operations, point by point -/

section
variable {s : State}

theorem execInit_lands (hf : s.frame = none) {k : InitPoint} (hs : s.seq = .init k) : Lands .init (execInit s) := by
  unfold execInit
  rw [hs]
  cases k with
  | config => exact lands_next (landsAt_goto hf rfl)
  | wake => exact lands_next (landsAt_post rfl rfl rfl rfl)
  | finish => exact lands_next (landsAt_idle hf rfl)

theorem execSleep_lands (hf : s.frame = none) {k : SleepPoint} (hs : s.seq = .sleep k) :
    Lands .sleep (execSleep s) := by
  unfold execSleep
  rw [hs]
  cases k with
  | cmd => exact lands_next (landsAt_post rfl rfl rfl rfl)
  | finish => exact lands_next (landsAt_idle hf rfl)

theorem execWait_lands (hf : s.frame = none) {k : WaitPoint} (hs : s.seq = .wait k) : Lands .wait (execWait s) := by
  unfold execWait
  rw [hs]
  exact lands_next (waitStep_landsAt hs hf (fun _ _ h => h) (fun _ => rfl) (landsAt_idle hf rfl)
    (landsAt_idle hf rfl))

theorem execGetStatus_lands (hf : s.frame = none) {k : StatusPoint} (hs : s.seq = .getStatus k) :
    Lands .getStatus (execGetStatus s) := by
  unfold execGetStatus
  rw [hs]
  cases k with
  | poll => exact lands_next (wakeThen_landsAt (hs ▸ rfl) (hs ▸ rfl) (landsAt_post rfl rfl rfl rfl))
  | finish => exact lands_next (landsAt_idle hf rfl)

theorem execSetStatus_lands (hf : s.frame = none) (v : Byte) {k : SetPoint} (hs : s.seq = .setStatus k) :
    Lands (.setStatus v) (execSetStatus v s) := by
  have hat (k : SetPoint) : OperationAt s (.setStatus v) (.setStatus k) := ⟨v, rfl⟩
  unfold execSetStatus
  rw [hs]
  cases k with
  | wake => exact lands_next (wakeThen_landsAt (hs ▸ rfl) (hs ▸ hat _) (landsAt_goto hf (hat _)))
  | wen => exact lands_next (landsAt_post rfl rfl rfl (hat _))
  | cmd => exact lands_next (landsAt_post rfl rfl rfl (hat _))
  | waiting w =>
    exact lands_next (waitStep_landsAt hs hf (fun _ _ h => Bool.or_eq_true_iff.2 (.inl h)) (fun _ => hat _)
      (landsAt_idle hf rfl) (landsAt_idle hf rfl))

/-- A unit that was erased leaves the progress of the loop it belongs to (R165, R166). -/
theorem eraseUnitDone_landsAt (hf : s.frame = none) {o n : Operand} (hacc : eraseRejects s.flashSize o n = false)
    {u : EraseSize} {w : WaitPoint} (hat : EraseProgress s o n (.waiting u w)) :
    LandsAt (.erase o n) (eraseUnitDone u .success s) := by
  obtain ⟨hsum, hcur, hrem, -, hle⟩ := hat
  have hunit : u.bytes % 4096 = 0 := by cases u <;> rfl
  have hprogress : s.cur + u.bytes + (s.rem - u.bytes) = o.toNat + n.toNat ∧ (s.cur + u.bytes) % 4096 = 0 ∧
      (s.rem - u.bytes) % 4096 = 0 := by omega
  refine landsAt_of_no_frame hf ⟨o, n, rfl, hacc, ?_⟩
  cases u <;> exact hprogress

theorem execErase_lands (hf : s.frame = none) {o n : Operand} (hacc : eraseRejects s.flashSize o n = false)
    {k : ErasePoint} (hs : s.seq = .erase k) (hat : EraseProgress s o n k) :
    Lands (.erase o n) (execErase o n s) := by
  have at_ {k : ErasePoint} (h : EraseProgress s o n k) : OperationAt s (.erase o n) (.erase k) := ⟨o, n, rfl, hacc, h⟩
  unfold execErase
  rw [hs]
  cases k with
  | wake =>
    obtain ⟨-, ho, hn⟩ := eraseRejects_eq_false.1 hacc
    exact lands_next (wakeThen_landsAt (hs ▸ rfl) (hs ▸ at_ hat)
      (landsAt_of_no_frame hf ⟨o, n, rfl, hacc, rfl, ho, hn⟩))
  | blocks =>
    refine lands_next (landsAt_goto hf ?_)
    split
    next hb =>
      simp only [blockFits, Bool.and_eq_true, decide_eq_true_eq] at hb
      obtain ⟨hsum, hcur, hrem⟩ := hat
      exact at_ ⟨hsum, hcur, hrem, hb⟩
    · exact at_ hat
  | sectors =>
    refine lands_next (.ite (fun hrem => landsAt_goto hf (at_ ?_)) fun _ => landsAt_idle hf rfl)
    obtain ⟨hsum, hcur, hmod⟩ := hat
    exact ⟨hsum, hcur, hmod, hcur, show 4096 ≤ s.rem by omega⟩
  | wen u =>
    have hcmd : EraseProgress s o n (.cmd u) := hat
    exact lands_next (.ite (fun hmis => absurd hcmd.unit.1 hmis) fun _ => landsAt_post rfl rfl rfl (at_ hcmd))
  | cmd u =>
    have hw := EraseSize.command_wellFormed hat.unit.1
    cases u <;> exact lands_next (landsAt_post rfl hw rfl (at_ hat))
  | waiting u w =>
    have hfits (w : WaitPoint) (m : List Byte) (h : frameFits.waitFits w m = true) :
        frameFits (.erase (.waiting u w)) m = true := by
      cases u <;> exact Bool.or_eq_true_iff.2 (.inl h)
    exact lands_next (waitStep_landsAt hs hf hfits (fun _ => at_ hat) (eraseUnitDone_landsAt hf hacc hat)
      (landsAt_idle hf rfl))

theorem execWrite_lands (hf : s.frame = none) {d : List Byte} {o n : Operand} (hd : d.length = n.toNat)
    (hacc : exceedsFlash s.flashSize o n = false) {k : WritePoint} (hs : s.seq = .write k)
    (hat : WriteProgress s o n k) : Lands (.write (some d) o n) (execWrite (some d) o n s) := by
  have at_ {k : WritePoint} (h : WriteProgress s o n k) : OperationAt s (.write (some d) o n) (.write k) :=
    ⟨d, o, n, rfl, hd, hacc, h⟩
  unfold execWrite
  rw [hs]
  cases k with
  | wake =>
    exact lands_next (wakeThen_landsAt (hs ▸ rfl) (hs ▸ at_ hat)
      (landsAt_of_no_frame hf ⟨d, o, n, rfl, hd, hacc, rfl, Nat.zero_add _⟩))
  | chunks =>
    refine lands_next (.ite (fun hrem => ?_) fun hrem => landsAt_goto hf (at_ ?_))
    · exact landsAt_of_no_frame hf ⟨d, o, n, rfl, hd, hacc, hat.1, hat.2, hrem, rfl⟩
    · exact ⟨hat.1, hat.2, Nat.eq_zero_of_not_pos hrem⟩
  | waitChunk w =>
    exact lands_next (waitStep_landsAt hs hf (fun _ _ h => h) (fun _ => at_ hat) (landsAt_goto hf (at_ hat))
      (landsAt_idle hf rfl))
  | wen => exact lands_next (landsAt_post rfl rfl rfl (at_ hat))
  | cmd =>
    obtain ⟨hcur, hidx, hrem, hchunk⟩ := hat
    refine lands_next (landsAt_post rfl ?_ rfl (at_ ⟨hcur, hidx, hrem, hchunk⟩))
    rw [hchunk]
    exact pageProgram_wellFormed hrem (hidx.trans hd.symm)
  | advance =>
    obtain ⟨hcur, hidx, hrem, hchunk⟩ := hat
    have hle := (chunkSize_bounds (cur := s.cur) hrem).2.1
    refine lands_next (landsAt_of_no_frame hf ⟨d, o, n, rfl, hd, hacc, ?_, ?_⟩)
    · show s.cur + s.chunk = o.toNat + (s.idx + s.chunk)
      omega
    · show s.idx + s.chunk + (s.rem - s.chunk) = n.toNat
      omega
  | waitLast w =>
    exact lands_next (waitStep_landsAt hs hf (fun _ _ h => h) (fun _ => at_ hat) (landsAt_idle hf rfl)
      (landsAt_idle hf rfl))

theorem execRead_lands (hf : s.frame = none) {o n : Operand} (hacc : exceedsFlash s.flashSize o n = false)
    {k : QueryPoint} (hs : s.seq = .read k) : Lands (.read o n) (execRead o n s) := by
  have hat (k : QueryPoint) : OperationAt s (.read o n) (.read k) := ⟨o, n, rfl, hacc⟩
  unfold execRead
  rw [hs]
  cases k with
  | wake => exact lands_next (wakeThen_landsAt (hs ▸ rfl) (hs ▸ hat _) (landsAt_goto hf (hat _)))
  | cmd => exact lands_next (landsAt_post rfl rfl rfl ⟨o, n, rfl, hacc⟩)
  | finish => exact lands_next (landsAt_idle hf rfl)

theorem execGetJedecId_lands (hf : s.frame = none) {k : QueryPoint} (hs : s.seq = .getJedecId k) :
    Lands .getJedecId (execGetJedecId s) := by
  unfold execGetJedecId
  rw [hs]
  cases k with
  | wake => exact lands_next (wakeThen_landsAt (hs ▸ rfl) (hs ▸ rfl) (landsAt_goto hf rfl))
  | cmd =>
    exact lands_next (landsAt_post rfl (by simp [Instr.wellFormed, Instr.fitsFormat, Instr.addressLegal, State.fillers])
      rfl rfl)
  | finish => exact lands_next (landsAt_idle hf rfl)

theorem execGetUniqueId_lands (hf : s.frame = none) {k : QueryPoint} (hs : s.seq = .getUniqueId k) :
    Lands .getUniqueId (execGetUniqueId s) := by
  unfold execGetUniqueId
  rw [hs]
  cases k with
  | wake => exact lands_next (wakeThen_landsAt (hs ▸ rfl) (hs ▸ rfl) (landsAt_goto hf rfl))
  | cmd =>
    exact lands_next (landsAt_post rfl (by simp [Instr.wellFormed, Instr.fitsFormat, Instr.addressLegal, State.fillers])
      rfl rfl)
  | finish => exact lands_next (landsAt_idle hf rfl)

end

/-- Every point of the running operation lands on a point of it. -/
theorem operation_lands {s : State} {i : Instr} {k : Seq} (hf : s.frame = none) (hs : s.seq = k) (hk : k ≠ .idle)
    (hat : OperationAt s i k) : Lands i (exec i s) := by
  cases k with
  | idle => exact absurd rfl hk
  | init p => obtain rfl : i = .init := hat; exact execInit_lands hf hs
  | sleep p => obtain rfl : i = .sleep := hat; exact execSleep_lands hf hs
  | wait p => obtain rfl : i = .wait := hat; exact execWait_lands hf hs
  | getStatus p => obtain rfl : i = .getStatus := hat; exact execGetStatus_lands hf hs
  | setStatus p => obtain ⟨v, rfl⟩ := hat; exact execSetStatus_lands hf v hs
  | erase p => obtain ⟨o, n, rfl, hacc, hprogress⟩ := hat; exact execErase_lands hf hacc hs hprogress
  | write p => obtain ⟨d, o, n, rfl, hd, hacc, hprogress⟩ := hat; exact execWrite_lands hf hd hacc hs hprogress
  | read p => obtain ⟨o, n, rfl, hacc⟩ := hat; exact execRead_lands hf hacc hs
  | getJedecId p => obtain rfl : i = .getJedecId := hat; exact execGetJedecId_lands hf hs
  | getUniqueId p => obtain rfl : i = .getUniqueId := hat; exact execGetUniqueId_lands hf hs

/-! ### Accepting a request -/

/-- A decoded request carries data of the right length, if any (R28). -/
theorem decodeRequest_fitsFormat {r : Request} {i : Instr} (h : decodeRequest r = .ok i) : i.fitsFormat = true := by
  by_cases h6 : r.op = 6#4
  · have hw : checked (.write r.data r.offset r.length) .dataLength = .ok i := by simpa [decodeRequest, h6] using h
    obtain ⟨rfl, hfit⟩ := checked_ok.1 hw
    exact hfit
  · simp only [decodeRequest, h6, if_false] at h
    split_ifs at h <;> cases h <;> rfl

/-- INIT's first point configures the bus (R121). -/
theorem execInit_config {s : State} (hs : s.seq = .init .config) :
    exec .init s = .next (s.initializeAsController.goto (.init .wake)) := by
  simp [exec, execInit, hs]

/-- INIT is accepted whether or not it has run (R254). -/
theorem execInit_idle {s : State} (hs : s.seq = .idle) : exec .init s = .next (s.accept.goto (.init .config)) := by
  simp [exec, execInit, hs]

/-- A host operation presented to an IDLE machine, INIT or after INIT, lands at its first point or has its answer. -/
theorem accept_lands {s : State} {i : Instr} (hi : i.isOperation = true) (hw : i.fitsFormat = true)
    (hf : s.frame = none) (hs : s.seq = .idle) (hinit : i = .init ∨ s.inited = true) : Lands i (exec i s) := by
  have init : Lands .init (exec .init s) := execInit_idle hs ▸ lands_next (landsAt_goto hf rfl)
  obtain rfl | hinit := hinit
  · exact init
  cases i with
  | init => exact init
  | sleep =>
    simp only [exec, execSleep, hs, begin_of_inited hinit]
    exact lands_next (.ite (fun _ => landsAt_idle hf rfl) fun _ => landsAt_goto hf rfl)
  | wait =>
    simp only [exec, execWait, hs, begin_of_inited hinit]
    exact lands_next (landsAt_goto hf rfl)
  | getStatus =>
    simp only [exec, execGetStatus, hs, begin_of_inited hinit]
    exact lands_next (landsAt_goto hf rfl)
  | setStatus v =>
    simp only [exec, execSetStatus, hs, begin_of_inited hinit]
    exact lands_next (landsAt_goto hf ⟨v, rfl⟩)
  | erase o n =>
    simp only [exec, execErase, hs, begin_of_inited hinit]
    exact lands_next (.ite (fun _ => landsAt_idle hf rfl) fun hacc =>
      landsAt_goto hf ⟨o, n, rfl, Bool.eq_false_of_not_eq_true hacc, trivial⟩)
  | write d o n =>
    simp only [exec, execWrite, hs, begin_of_inited hinit]
    refine lands_next (.ite (fun _ => landsAt_idle hf rfl) fun hacc => landsAt_goto hf ?_)
    cases d with
    | none => exact absurd rfl hacc
    | some d =>
      exact ⟨d, o, n, rfl, of_decide_eq_true hw, Bool.eq_false_of_not_eq_true hacc, trivial⟩
  | read o n =>
    simp only [exec, execRead, hs, begin_of_inited hinit]
    exact lands_next (.ite (fun _ => landsAt_idle hf rfl) fun hacc =>
      landsAt_goto hf ⟨o, n, rfl, Bool.eq_false_of_not_eq_true hacc⟩)
  | getJedecId =>
    simp only [exec, execGetJedecId, hs, begin_of_inited hinit]
    exact lands_next (landsAt_goto hf rfl)
  | getUniqueId =>
    simp only [exec, execGetUniqueId, hs, begin_of_inited hinit]
    exact lands_next (landsAt_goto hf rfl)
  | _ => cases hi

/-- Before INIT, every other operation is refused (R254). -/
theorem exec_not_inited {s : State} {i : Instr} (hi : i.isOperation = true) (hne : i ≠ .init) (hs : s.seq = .idle)
    (h : s.inited = false) : exec i s = .refused .notInitialised := by
  have refuse (go : State → State) : s.begin go = .refused .notInitialised := by simp [State.begin, h]
  cases i with
  | init => exact absurd rfl hne
  | sleep => simp only [exec, execSleep, hs, refuse]
  | wait => simp only [exec, execWait, hs, refuse]
  | getStatus => simp only [exec, execGetStatus, hs, refuse]
  | setStatus v => simp only [exec, execSetStatus, hs, refuse]
  | erase o n => simp only [exec, execErase, hs, refuse]
  | write d o n => simp only [exec, execWrite, hs, refuse]
  | read o n => simp only [exec, execRead, hs, refuse]
  | getJedecId => simp only [exec, execGetJedecId, hs, refuse]
  | getUniqueId => simp only [exec, execGetUniqueId, hs, refuse]
  | _ => cases hi

/-! ### Coherence -/

/-- A request that does not decode is refused (R28, R102). -/
theorem step_of_bad_request {s : State} {r : Request} {rest : List Request} {e : DecodeError} (hf : s.frame = none)
    (hs : s.seq = .idle) (hq : s.requests = r :: rest) (hd : decodeRequest r = .error e) :
    step s = .refused (.illegalRequest e) := by
  simp [step, State.fetch, hf, hs, hq, hd]

/-- A point configures the bus or leaves it as it is. -/
theorem PointMove.transportReady {s t : State} (h : PointMove s t) (hs : s.transportReady = true) :
    t.transportReady = true := by
  cases h with
  | configures => rfl
  | _ => exact hs

/-- The next state of an operation that lands on its point, with the bus configured where it must be, is coherent. -/
theorem Coherent.of_landsAt {s t : State} {r : Request} {i : Instr} (hs : Coherent s) (hr : s.req = some r)
    (hd : decodeRequest r = .ok i) (he : exec i s = .next t) (hl : LandsAt i t)
    (hinit : t.inited = true → t.transportReady = true) (hbus : beforeBus t.seq = false → t.transportReady = true) :
    Coherent t := by
  obtain ⟨hsize, -, -, -, hreq, -, -, -, -, hchip⟩ := operation_keepsBus (decodeRequest_isOperation hd) he
  exact {
    sizePositive := hsize ▸ hs.sizePositive
    sizeBounded := hsize ▸ hs.sizeBounded
    placed := fun m hm => (hl.2 m hm).1
    legal := fun m hm => (hl.2 m hm).2
    running := fun _ => ⟨r, i, hreq.trans hr, hd, hl.1⟩
    initialised := hinit
    configured := hbus
    canonical := hchip ▸ hs.canonical }

/-- A sent frame keeps coherence (R80). -/
theorem Coherent.sent {s : State} (hs : Coherent s) (i : Instr) : Coherent (s.sent i) where
  sizePositive := hs.sizePositive
  sizeBounded := hs.sizeBounded
  placed := nofun
  legal := nofun
  running hk := by
    obtain ⟨r, j, hr, hd, hat⟩ := hs.running hk
    exact ⟨r, j, hr, hd, hat.congr ⟨rfl, rfl, rfl, rfl, rfl⟩⟩
  initialised := hs.initialised
  configured := hs.configured
  canonical := Chip.receive_wf _ _ i hs.canonical

theorem eq_of_beforeBus {k : Seq} (h : beforeBus k = true) : k = .idle ∨ k = .init .config := by
  cases k with
  | idle => exact .inl rfl
  | init p =>
    cases p with
    | config => exact .inr rfl
    | _ => cases h
  | _ => cases h

/-- No frame is placed before the bus is configured. -/
theorem frameFits_configured {k : Seq} {m : List Byte} (h : frameFits k m = true) : beforeBus k = false := by
  cases hb : beforeBus k with
  | false => rfl
  | true => obtain rfl | rfl := eq_of_beforeBus hb <;> cases h

/-- A coherent machine sends its composed frame and stays coherent. -/
theorem Coherent.step_frame {s : State} (hs : Coherent s) {m : List Byte} (hf : s.frame = some m) :
    ∃ t, step s = .next t ∧ Coherent t := by
  obtain ⟨i, hd, -⟩ := hs.legal m hf
  have hbus := hs.configured (frameFits_configured (hs.placed m hf))
  refine ⟨s.sent i, ?_, hs.sent i⟩
  rw [step_of_frame hf hd, exec_wire s (decodeFrame_isOperation hd), onBus_next]
  exact ⟨hbus, rfl⟩

/-- A coherent machine goes on with the running operation and stays coherent. -/
theorem Coherent.step_running {s : State} (hs : Coherent s) (hf : s.frame = none) (hk : s.seq ≠ .idle) :
    ∃ t, step s = .next t ∧ Coherent t := by
  obtain ⟨r, i, hr, hd, hat⟩ := hs.running hk
  obtain ⟨t, he, hl⟩ := operation_lands hf rfl hk hat
  have hbus : t.transportReady = true := by
    cases hb : beforeBus s.seq with
    | false => exact (operation_pointMove (decodeRequest_isOperation hd) he).transportReady (hs.configured hb)
    | true =>
      have hc := (eq_of_beforeBus hb).resolve_left hk
      obtain rfl : i = .init := by rwa [hc] at hat
      obtain rfl := Host.Outcome.next.inj ((execInit_config hc).symm.trans he)
      rfl
  exact ⟨t, (step_of_running hf hk hr hd).trans he, hs.of_landsAt hr hd he hl (fun _ => hbus) fun _ => hbus⟩

/-- Reading a request into REQ of an IDLE machine keeps coherence. -/
theorem Coherent.readRequest {s : State} (hs : Coherent s) (hk : s.seq = .idle)
    (rest : List Request) (r : Request) : Coherent { s with requests := rest, req := some r } where
  sizePositive := hs.sizePositive
  sizeBounded := hs.sizeBounded
  placed := hs.placed
  legal := hs.legal
  running h := absurd hk h
  initialised := hs.initialised
  configured := hs.configured
  canonical := hs.canonical

/-- A coherent machine accepts INIT, and after INIT every operation. -/
theorem Coherent.accepts {s : State} (hs : Coherent s) (hf : s.frame = none) (hk : s.seq = .idle) {r : Request}
    {i : Instr} (hr : s.req = some r) (hd : decodeRequest r = .ok i) (hinit : i = .init ∨ s.inited = true) :
    ∃ t, exec i s = .next t ∧ Coherent t := by
  have hi := decodeRequest_isOperation hd
  obtain ⟨t, he, hl⟩ := accept_lands hi (decodeRequest_fitsFormat hd) hf hk hinit
  have hm := operation_pointMove hi he
  refine ⟨t, he, hs.of_landsAt hr hd he hl (fun ht => ?_) fun hb => ?_⟩
  · obtain hkept | hfinish := hm.inited
    · exact hm.transportReady (hs.initialised (hkept.symm.trans ht))
    · cases hk.symm.trans hfinish
  · obtain rfl | hinit := hinit
    · obtain rfl := Host.Outcome.next.inj ((execInit_idle hk).symm.trans he)
      cases hb
    · exact hm.transportReady (hs.initialised hinit)

/-- The host's next request is accepted, or refused as the spec orders (R28, R102, R254). -/
theorem Coherent.step_request {s : State} (hs : Coherent s) (hf : s.frame = none) (hk : s.seq = .idle)
    {r : Request} {rest : List Request} (hq : s.requests = r :: rest) :
    (∃ t, step s = .next t ∧ Coherent t) ∨ OrderedRefusal s := by
  cases hd : decodeRequest r with
  | error e => exact .inr ⟨hk, hf, r, rest, hq, .inl ⟨e, hd, step_of_bad_request hf hk hq hd⟩⟩
  | ok i =>
    rw [OrderedRefusal, step_of_request hf hk hq hd]
    by_cases hinit : i = .init ∨ s.inited = true
    · exact .inl ((hs.readRequest hk rest r).accepts hf hk rfl hd hinit)
    · obtain ⟨hne, hno⟩ := not_or.1 hinit
      have hno := Bool.eq_false_of_not_eq_true hno
      exact .inr ⟨hk, hf, r, rest, hq, .inr ⟨i, hd, hne, hno,
        exec_not_inited (decodeRequest_isOperation hd) hne hk hno⟩⟩

/-- Settles O57: a coherent machine sends its frame, goes on, rests, or reads the next request. -/
theorem coherentMachineRunsOrRefusesAsOrdered : Obligations.CoherentMachineRunsOrRefusesAsOrdered := by
  intro s hs
  cases hf : s.frame with
  | some m => exact .inl (hs.step_frame hf)
  | none =>
    by_cases hk : s.seq = .idle
    · cases hq : s.requests with
      | nil => exact .inl ⟨s, step_of_nothing hf hk hq, hs⟩
      | cons r rest => exact hs.step_request hf hk hq
    · exact .inl (hs.step_running hf hk)

end Sys2Proof.Machine
end

section
/-! PROOFS. The array of the reference chip (20_memory.md section 9, G3; logs 10, 12): what can change it, and that it stays
canonical. -/

namespace Sys2Proof.Machine

/-- No point of a host operation reaches the chip (R33). -/
theorem PointMove.chip {s t : State} (h : PointMove s t) : t.chip = s.chip := by
  cases h <;> rfl

/-- Settles O20: a frame keeps the form at the chip, and a point does not reach the chip. -/
theorem stepKeepsTheArrayCanonical : Obligations.StepKeepsTheArrayCanonical := by
  intro s t hwf h
  obtain rfl | ⟨b, i, -, hd, he⟩ | ⟨requests, req, -, hm⟩ := step_moves h
  · exact hwf
  · obtain ⟨-, rfl⟩ := (wire_next (decodeFrame_isOperation hd)).1 he
    exact Chip.receive_wf _ _ i hwf
  · exact hm.chip ▸ hwf

/-- The commands that write the array (R53): a program and the two erases. -/
def WritesArray (i : Instr) : Prop :=
  (∃ a p, i = .pageProgram a p) ∨ (∃ a, i = .sectorErase4k a) ∨ ∃ a, i = .blockErase32k a

section
variable {c : Chip} {i : Instr} (size n : Nat)

/-- An obeyed command leaves the array as it is, unless it writes the array and the latch is set. -/
theorem Chip.obey_array (h : ¬WritesArray i ∨ c.wel = false) : (c.obey size n i).array = c.array := by
  have kept {d : Chip} (hi : WritesArray i) : (if c.wel then d else c).array = c.array := by
    rw [h.resolve_left (not_not_intro hi)]
    rfl
  cases i with
  | pageProgram a p => exact kept (.inl ⟨a, p, rfl⟩)
  | sectorErase4k a => exact kept (.inr (.inl ⟨a, rfl⟩))
  | blockErase32k a => exact kept (.inr (.inr ⟨a, rfl⟩))
  | writeStatusRegister v =>
    simp only [Chip.obey]
    split <;> rfl
  | _ => rfl

/-- A chip that is busy or powered down keeps its array. -/
theorem Chip.receive_array_of_deaf (h : c.listens = false) : (c.receive size n i).array = c.array := by
  by_cases hb : c.busyFor = 0
  · have ha : c.asleep = true := by simpa [Chip.listens, Chip.busy, hb] using h
    rw [Chip.receive_asleep size n i hb ha]
  · rw [Chip.receive_of_busy size n i hb]

/-- A received frame leaves the array as it is, unless it is a program or an erase that the chip obeys under the latch. -/
theorem Chip.receive_array (h : ¬WritesArray i ∨ c.wel = false ∨ c.listens = false) :
    (c.receive size n i).array = c.array := by
  cases hl : c.listens with
  | false => exact Chip.receive_array_of_deaf size n hl
  | true =>
    rw [Chip.receive_of_listens size n i hl]
    exact Chip.obey_array size n (h.imp_right fun hw => hw.resolve_right (by simp [hl]))

end

/-- Settles O17: a host operation does not reach the chip, and the chip keeps its array of any other frame. -/
theorem nothingElseChangesTheArray : Obligations.NothingElseChangesTheArray := by
  intro i s t he h
  cases hi : i.isOperation with
  | true => rw [(operation_pointMove hi he).chip]
  | false =>
    obtain ⟨-, rfl⟩ := (wire_next hi).1 he
    refine Chip.receive_array _ _ (h.imp_left ?_)
    rintro ⟨hprogram, hsector, hblock⟩ (⟨a, p, e⟩ | ⟨a, e⟩ | ⟨a, e⟩)
    · exact hprogram a p e
    · exact hsector a e
    · exact hblock a e

end Sys2Proof.Machine
end

section
/-! PROOFS. The write-enable discipline (R72, R144): how a trace that keeps it grows, which frame makes the sequencer armed,
and what every point of every operation composes. -/

namespace Sys2Proof.Machine

/-! ### Growing a trace -/

/-- A trace that keeps the discipline keeps it with one more event, if that event is latched exactly when the trace ends in
`[0x06]`. -/
theorem latchScan_append {b : Bool} {tr : List Event} {a : Bool} {e : Event} (h : latchScan b tr = some a)
    (he : a = isLatched e) : latchScan b (tr ++ [e]) = some (isWriteEnable e) := by
  induction tr generalizing b with
  | nil =>
    obtain rfl := Option.some.inj h
    exact if_pos he
  | cons d tr ih =>
    simp only [List.cons_append, latchScan] at h ⊢
    split at h
    next hd => rw [if_pos hd, ih h]
    · cases h

/-- `BusInit` and a clock read are neither latched nor a write-enable. -/
theorem unlatched_of_ne_frame {e : Event} (h : ∀ m r, e ≠ .frame m r) : isLatched e = false ∧ isWriteEnable e = false := by
  cases e with
  | frame m r => exact absurd rfl (h m r)
  | _ => exact ⟨rfl, rfl⟩

/-! ### The frame of a point -/

/-- The point of a latched command follows a `[0x06]` alone (R72). -/
theorem eq_writeEnable_of_atCommand {k : Seq} {m : List Byte} (h : frameFits k m = true) (hk : atCommand k = true) :
    m = [0x06#8] := by
  cases k with
  | setStatus p =>
    cases p with
    | cmd => exact of_decide_eq_true h
    | _ => cases hk
  | erase p =>
    cases p with
    | cmd u => exact of_decide_eq_true h
    | _ => cases hk
  | write p =>
    cases p with
    | cmd => exact of_decide_eq_true h
    | _ => cases hk
  | _ => cases hk

/-- No point of `Wait()` places a `[0x06]`. -/
theorem waitFits_writeEnable (w : WaitPoint) : frameFits.waitFits w [0x06#8] = false := by
  cases w <;> rfl

/-- No point of a query places a `[0x06]`. -/
theorem queryFits_writeEnable (p : QueryPoint) {op : Byte} (h : op ≠ 0x06#8) :
    frameFits.queryFits p op [0x06#8] = false := by
  cases p with
  | finish => simpa [frameFits.queryFits] using h.symm
  | _ => rfl

/-- A `[0x06]` is placed at the point of a latched command alone (R72). -/
theorem atCommand_of_writeEnable {k : Seq} (h : frameFits k [0x06#8] = true) : atCommand k = true := by
  cases k with
  | idle => cases h
  | init p => simp [frameFits] at h
  | sleep p => simp [frameFits] at h
  | wait w => simp [frameFits, waitFits_writeEnable] at h
  | getStatus p => cases p <;> simp [frameFits] at h
  | setStatus p =>
    cases p with
    | cmd => rfl
    | waiting w => simp [frameFits, waitFits_writeEnable] at h
    | _ => simp [frameFits] at h
  | erase p =>
    cases p with
    | cmd u => rfl
    | waiting u w => cases u <;> simp [frameFits, waitFits_writeEnable] at h
    | _ => simp [frameFits] at h
  | write p =>
    cases p with
    | cmd => rfl
    | waitChunk w => simp [frameFits, waitFits_writeEnable] at h
    | waitLast w => simp [frameFits, waitFits_writeEnable] at h
    | _ => simp [frameFits] at h
  | read p => simp [frameFits, queryFits_writeEnable] at h
  | getJedecId p => simp [frameFits, queryFits_writeEnable] at h
  | getUniqueId p => simp [frameFits, queryFits_writeEnable] at h

/-- Of the frames placed at a point, exactly those at the point of a latched command are `[0x06]` (R72). -/
theorem isWriteEnable_of_frameFits {k : Seq} {m : List Byte} (r : List Byte) (h : frameFits k m = true) :
    isWriteEnable (.frame m r) = atCommand k :=
  Bool.eq_iff_iff.2
    ⟨fun hm => atCommand_of_writeEnable (of_decide_eq_true hm ▸ h),
      fun hk => decide_eq_true (eq_writeEnable_of_atCommand h hk)⟩

/-- The frames that fit a point of `Wait()` fit it inside an erase unit. -/
theorem frameFits_waiting_of_waitFits {u : EraseSize} {w : WaitPoint} {m : List Byte}
    (h : frameFits.waitFits w m = true) : frameFits (.erase (.waiting u w)) m = true := by
  cases u <;> exact Bool.or_eq_true_iff.2 (.inl h)

/-! ### What a point composes -/

/-- A move from a point with no composed frame that keeps the discipline: the frame it composes is placed, the sequencer is
armed after it if the point was the one of a latched command, and such a point adds no event. -/
def KeepsLatch (s t : State) : Prop :=
  FramePlaced t ∧ armed t = atCommand s.seq ∧ (t.trace = s.trace ∨ atCommand s.seq = false)

/-- The next state of the outcome, if there is one, is reached by such a move. -/
def OutKeepsLatch (s : State) (o : Out) : Prop := ∀ t, o = .next t → KeepsLatch s t

theorem armed_of_no_frame {s : State} (h : s.frame = none) : armed s = atCommand s.seq := by
  simp [armed, h]

theorem armed_of_frame {s : State} {m : List Byte} (h : s.frame = some m) : armed s = needsLatch m := by
  simp [armed, h]

section
variable {s t : State}

/-- Composing nothing, between points that compose no latched command. -/
theorem KeepsLatch.rests (hf : t.frame = none) (ht : atCommand t.seq = false) (hs : atCommand s.seq = false) :
    KeepsLatch s t :=
  ⟨fun _ hm => (nomatch hf.symm.trans hm), (armed_of_no_frame hf).trans (ht.trans hs.symm), .inr hs⟩

/-- Composing the frame that belongs to the next point: a latched command's at its point, another one elsewhere. -/
theorem KeepsLatch.composes {m : List Byte} (hf : t.frame = some m) (htr : t.trace = s.trace)
    (hm : frameFits t.seq m = true) (hs : needsLatch m = atCommand s.seq) : KeepsLatch s t :=
  ⟨fun _ hm' => Option.some.inj (hf.symm.trans hm') ▸ hm, (armed_of_frame hf).trans hs, .inl htr⟩

theorem KeepsLatch.ite {c : Prop} [Decidable c] {u : State} (ht : KeepsLatch s t) (hu : KeepsLatch s u) :
    KeepsLatch s (if c then t else u) := by
  split
  · exact ht
  · exact hu

theorem outKeepsLatch_next (h : KeepsLatch s t) : OutKeepsLatch s (.next t) := by
  rintro _ ⟨⟩
  exact h

theorem outKeepsLatch_refused (r : Refusal) : OutKeepsLatch s (.refused r) := by
  rintro _ ⟨⟩

theorem outKeepsLatch_begin {go : State → State} (h : KeepsLatch s (go s.accept)) : OutKeepsLatch s (s.begin go) := by
  intro t ht
  obtain ⟨-, rfl⟩ := begin_next.1 ht
  exact h

theorem wakeThen_keepsLatch {go : State → State} (hm : frameFits s.seq [0xAB#8] = true) (h : KeepsLatch s (go s)) :
    KeepsLatch s (s.wakeThen go) := by
  obtain ⟨-, e⟩ | ⟨-, e⟩ := wakeThen_cases s go <;> rw [e]
  · exact .composes rfl rfl hm (isWriteEnable_of_frameFits [] hm)
  · exact h

/-- A point of `Wait()`, in an operation that composes no latched command while it waits (R148). -/
theorem waitStep_keepsLatch {at_ : WaitPoint → Seq} {done : Result → State → State} {w : WaitPoint} (hs : s.seq = at_ w)
    (hf : s.frame = none) (hm : ∀ w m, frameFits.waitFits w m = true → frameFits (at_ w) m = true)
    (hat : ∀ w, atCommand (at_ w) = false) (hsuccess : KeepsLatch s (done .success s))
    (htimeout : KeepsLatch s (done .timeout s.readClock)) : KeepsLatch s (s.waitStep at_ done w) := by
  have hwake (hw : frameFits.waitFits w [0xAB#8] = true) : frameFits s.seq [0xAB#8] = true := hs ▸ hm w _ hw
  have hc : atCommand s.seq = false := hs ▸ hat w
  cases w with
  | start =>
    exact wakeThen_keepsLatch (go := fun s => s.markStart.goto (at_ .poll)) (hwake rfl) (.rests hf (hat _) hc)
  | poll =>
    exact wakeThen_keepsLatch (go := fun s => s.postPoll.goto (at_ .test)) (hwake rfl)
      (.composes rfl rfl (hm .test _ rfl) hc.symm)
  | test => exact .ite (.rests hf (hat _) hc) hsuccess
  | time => exact .ite htimeout (.rests hf (hat _) hc)

end

/-! ### The operations, point by point -/

section
variable {s : State} (hf : s.frame = none)
include hf

theorem execInit_keepsLatch : OutKeepsLatch s (execInit s) := by
  unfold execInit
  split
  next hs => exact outKeepsLatch_next (.rests hf rfl (hs ▸ rfl))
  next hs => exact outKeepsLatch_next (.rests hf rfl (hs ▸ rfl))
  next hs => exact outKeepsLatch_next (.composes rfl rfl rfl (hs ▸ rfl))
  next hs => exact outKeepsLatch_next (.rests hf rfl (hs ▸ rfl))
  · exact outKeepsLatch_refused _

theorem execSleep_keepsLatch : OutKeepsLatch s (execSleep s) := by
  unfold execSleep
  split
  next hs => exact outKeepsLatch_begin (.ite (.rests hf rfl (hs ▸ rfl)) (.rests hf rfl (hs ▸ rfl)))
  next hs => exact outKeepsLatch_next (.composes rfl rfl rfl (hs ▸ rfl))
  next hs => exact outKeepsLatch_next (.rests hf rfl (hs ▸ rfl))
  · exact outKeepsLatch_refused _

theorem execWait_keepsLatch : OutKeepsLatch s (execWait s) := by
  unfold execWait
  split
  next hs => exact outKeepsLatch_begin (.rests hf rfl (hs ▸ rfl))
  next hs =>
    exact outKeepsLatch_next (waitStep_keepsLatch hs hf (fun _ _ h => h) (fun _ => rfl)
      (.rests hf rfl (hs ▸ rfl)) (.rests hf rfl (hs ▸ rfl)))
  · exact outKeepsLatch_refused _

theorem execGetStatus_keepsLatch : OutKeepsLatch s (execGetStatus s) := by
  unfold execGetStatus
  split
  next hs => exact outKeepsLatch_begin (.rests hf rfl (hs ▸ rfl))
  next hs => exact outKeepsLatch_next (wakeThen_keepsLatch (hs ▸ rfl) (.composes rfl rfl rfl (hs ▸ rfl)))
  next hs => exact outKeepsLatch_next (.rests hf rfl (hs ▸ rfl))
  · exact outKeepsLatch_refused _

theorem execSetStatus_keepsLatch (v : Byte) : OutKeepsLatch s (execSetStatus v s) := by
  unfold execSetStatus
  split
  next hs => exact outKeepsLatch_begin (.rests hf rfl (hs ▸ rfl))
  next hs => exact outKeepsLatch_next (wakeThen_keepsLatch (hs ▸ rfl) (.rests hf rfl (hs ▸ rfl)))
  next hs => exact outKeepsLatch_next (.composes rfl rfl rfl (hs ▸ rfl))
  next hs => exact outKeepsLatch_next (.composes rfl rfl rfl (hs ▸ rfl))
  next hs =>
    exact outKeepsLatch_next (waitStep_keepsLatch hs hf (fun _ _ h => Bool.or_eq_true_iff.2 (.inl h)) (fun _ => rfl)
      (.rests hf rfl (hs ▸ rfl)) (.rests hf rfl (hs ▸ rfl)))
  · exact outKeepsLatch_refused _

theorem execErase_keepsLatch (offset length : Operand) : OutKeepsLatch s (execErase offset length s) := by
  unfold execErase
  split
  next hs => exact outKeepsLatch_begin (.ite (.rests hf rfl (hs ▸ rfl)) (.rests hf rfl (hs ▸ rfl)))
  next hs => exact outKeepsLatch_next (wakeThen_keepsLatch (hs ▸ rfl) (.rests hf rfl (hs ▸ rfl)))
  next hs => exact outKeepsLatch_next (.rests hf (by rw [goto_seq]; split <;> rfl) (hs ▸ rfl))
  next hs => exact outKeepsLatch_next (.ite (.rests hf rfl (hs ▸ rfl)) (.rests hf rfl (hs ▸ rfl)))
  next hs => exact outKeepsLatch_next (.ite (.rests hf rfl (hs ▸ rfl)) (.composes rfl rfl rfl (hs ▸ rfl)))
  next u hs => cases u <;> exact outKeepsLatch_next (.composes rfl rfl rfl (hs ▸ rfl))
  next u w hs =>
    exact outKeepsLatch_next (waitStep_keepsLatch hs hf (fun _ _ => frameFits_waiting_of_waitFits) (fun _ => rfl)
      (.rests hf (by cases u <;> rfl) (hs ▸ rfl)) (.rests hf rfl (hs ▸ rfl)))
  · exact outKeepsLatch_refused _

theorem execWrite_keepsLatch (data : Option (List Byte)) (offset length : Operand) :
    OutKeepsLatch s (execWrite data offset length s) := by
  unfold execWrite
  split
  next hs => exact outKeepsLatch_begin (.ite (.rests hf rfl (hs ▸ rfl)) (.rests hf rfl (hs ▸ rfl)))
  next hs => exact outKeepsLatch_next (wakeThen_keepsLatch (hs ▸ rfl) (.rests hf rfl (hs ▸ rfl)))
  next hs => exact outKeepsLatch_next (.ite (.rests hf rfl (hs ▸ rfl)) (.rests hf rfl (hs ▸ rfl)))
  next hs =>
    exact outKeepsLatch_next (waitStep_keepsLatch hs hf (fun _ _ h => h) (fun _ => rfl)
      (.rests hf rfl (hs ▸ rfl)) (.rests hf rfl (hs ▸ rfl)))
  next hs => exact outKeepsLatch_next (.composes rfl rfl rfl (hs ▸ rfl))
  next hs => exact outKeepsLatch_next (.composes rfl rfl rfl (hs ▸ rfl))
  next hs => exact outKeepsLatch_next (.rests hf rfl (hs ▸ rfl))
  next hs =>
    exact outKeepsLatch_next (waitStep_keepsLatch hs hf (fun _ _ h => h) (fun _ => rfl)
      (.rests hf rfl (hs ▸ rfl)) (.rests hf rfl (hs ▸ rfl)))
  · exact outKeepsLatch_refused _

theorem execRead_keepsLatch (offset length : Operand) : OutKeepsLatch s (execRead offset length s) := by
  unfold execRead
  split
  next hs => exact outKeepsLatch_begin (.ite (.rests hf rfl (hs ▸ rfl)) (.rests hf rfl (hs ▸ rfl)))
  next hs => exact outKeepsLatch_next (wakeThen_keepsLatch (hs ▸ rfl) (.rests hf rfl (hs ▸ rfl)))
  next hs => exact outKeepsLatch_next (.composes rfl rfl rfl (hs ▸ rfl))
  next hs => exact outKeepsLatch_next (.rests hf rfl (hs ▸ rfl))
  · exact outKeepsLatch_refused _

theorem execGetJedecId_keepsLatch : OutKeepsLatch s (execGetJedecId s) := by
  unfold execGetJedecId
  split
  next hs => exact outKeepsLatch_begin (.rests hf rfl (hs ▸ rfl))
  next hs => exact outKeepsLatch_next (wakeThen_keepsLatch (hs ▸ rfl) (.rests hf rfl (hs ▸ rfl)))
  next hs => exact outKeepsLatch_next (.composes rfl rfl rfl (hs ▸ rfl))
  next hs => exact outKeepsLatch_next (.rests hf rfl (hs ▸ rfl))
  · exact outKeepsLatch_refused _

theorem execGetUniqueId_keepsLatch : OutKeepsLatch s (execGetUniqueId s) := by
  unfold execGetUniqueId
  split
  next hs => exact outKeepsLatch_begin (.rests hf rfl (hs ▸ rfl))
  next hs => exact outKeepsLatch_next (wakeThen_keepsLatch (hs ▸ rfl) (.rests hf rfl (hs ▸ rfl)))
  next hs => exact outKeepsLatch_next (.composes rfl rfl rfl (hs ▸ rfl))
  next hs => exact outKeepsLatch_next (.rests hf rfl (hs ▸ rfl))
  · exact outKeepsLatch_refused _

end

/-- Every point of every operation keeps the discipline. -/
theorem operation_keepsLatch {i : Instr} {s t : State} (hf : s.frame = none) (hi : i.isOperation = true)
    (h : exec i s = .next t) : KeepsLatch s t := by
  cases i with
  | init => exact execInit_keepsLatch hf t h
  | sleep => exact execSleep_keepsLatch hf t h
  | wait => exact execWait_keepsLatch hf t h
  | getStatus => exact execGetStatus_keepsLatch hf t h
  | setStatus v => exact execSetStatus_keepsLatch hf v t h
  | erase o n => exact execErase_keepsLatch hf o n t h
  | write d o n => exact execWrite_keepsLatch hf d o n t h
  | read o n => exact execRead_keepsLatch hf o n t h
  | getJedecId => exact execGetJedecId_keepsLatch hf t h
  | getUniqueId => exact execGetUniqueId_keepsLatch hf t h
  | _ => cases hi

/-! ### The step -/

/-- A sent frame is latched exactly when the sequencer was armed, and arms it exactly when it is a `[0x06]`. -/
theorem LatchDiscipline.sent {s : State} {b : List Byte} {i : Instr} (hs : LatchDiscipline s) (hf : s.frame = some b)
    (hd : decodeFrame b = .ok i) : LatchDiscipline (s.sent i) := by
  obtain ⟨hplaced, hscan⟩ := hs
  have htrace : (s.sent i).trace = s.trace ++ [.frame b (s.transmit i).miso] := by
    simp [State.sent, encodeFrame_of_decodeFrame hd]
  have hlatched : armed s = isLatched (.frame b (s.transmit i).miso) := armed_of_frame hf
  refine ⟨nofun, ?_⟩
  rw [htrace, latchScan_append hscan hlatched, isWriteEnable_of_frameFits _ (hplaced b hf)]
  rfl

/-- The move of a point keeps the discipline: what it adds to the trace is no frame, and it adds nothing while armed. -/
theorem LatchDiscipline.operation {s t : State} {i : Instr} (hs : LatchDiscipline s) (hf : s.frame = none)
    (hi : i.isOperation = true) (h : exec i s = .next t) : LatchDiscipline t := by
  obtain ⟨-, hscan⟩ := hs
  obtain ⟨hplaced, harmed, hadds⟩ := operation_keepsLatch hf hi h
  rw [armed_of_no_frame hf] at hscan
  refine ⟨hplaced, ?_⟩
  rw [harmed]
  obtain htrace | ⟨e, htrace, he⟩ := (operation_pointMove hi h).trace
  · rw [htrace, hscan]
  · obtain ⟨hlatched, henable⟩ := unlatched_of_ne_frame he
    have hc : atCommand s.seq = false := hadds.resolve_left (by simp [htrace])
    rw [htrace, latchScan_append hscan (hc.trans hlatched.symm), henable, hc]

/-- Settles O54: sending the composed frame keeps the discipline, and so does every point. -/
theorem writeEnableDisciplineIsKept : Obligations.WriteEnableDisciplineIsKept := by
  intro s t hs h
  obtain ⟨b, i, hf, hd, he⟩ | ⟨-, -, -, rfl⟩ | ⟨r, rest, i, hf, -, -, hd, he⟩ | ⟨r, i, hf, -, -, hd, he⟩ := step_next h
  · obtain ⟨-, rfl⟩ := (wire_next (decodeFrame_isOperation hd)).1 he
    exact hs.sent hf hd
  · exact hs
  · exact .operation (s := { s with requests := rest, req := some r }) hs hf (decodeRequest_isOperation hd) he
  · exact hs.operation hf (decodeRequest_isOperation hd) he

end Sys2Proof.Machine
end

section
/-! PROOFS. The two encodings (30_encoding.md): frames and requests are read back as what was written, exactly the
frames whose length fits their opcode decode, and what names no instruction is refused. -/

namespace Sys2Proof

open Sys2Proof.Machine (wireAddr frameLengthFits)

/-! ### Addresses -/

/-- A byte of a wire address, as a byte of the number it is taken from. -/
theorem extractLsb'_wireAddr (n k : Nat) (hk : k + 8 ≤ 24) :
    (wireAddr n).extractLsb' k 8 = BitVec.ofNat 8 (n / 2 ^ k) := by
  apply BitVec.eq_of_getLsbD_eq
  intro i hi
  have hki : k + i < 24 := by omega
  simp only [wireAddr, BitVec.getLsbD_extractLsb', BitVec.getLsbD_ofNat, Nat.testBit_div_two_pow, hi, hki, decide_true,
    Bool.true_and, Nat.add_comm]

/-- Address assembly as a number (R84). -/
theorem addr24_toNat (a2 a1 a0 : Byte) :
    (addr24 a2 a1 a0).toNat = a2.toNat * 65536 + a1.toNat * 256 + a0.toNat := by
  have h1 := a1.isLt
  have h0 := a0.isLt
  simp only [addr24, BitVec.toNat_append]
  rw [← Nat.shiftLeft_add_eq_or_of_lt h1, ← Nat.shiftLeft_add_eq_or_of_lt h0]
  simp only [Nat.shiftLeft_eq]
  omega

/-- Settles O5: the three bytes of the wire address, and the number that three bytes make. -/
theorem addressTravelsMostSignificantFirst : Obligations.AddressTravelsMostSignificantFirst := by
  refine ⟨fun n => ?_, addr24_toNat⟩
  simp [addr3, extractLsb'_wireAddr]

/-! ### What is encoded decodes -/

theorem encodeFrame_eq_some {i : Instr} {b : List Byte} : encodeFrame i = some b ↔ encode i = .frame b := by
  unfold encodeFrame
  cases encode i <;> simp

/-- The request record of an operation whose data fits its length names that operation (R28, R100). -/
theorem decodeRequest_of_encode {i : Instr} {r : Request} (hf : i.fitsFormat = true) (h : encode i = .request r) :
    decodeRequest r = .ok i := by
  cases i with
  | write d o n => cases h; exact checked_of_fitsFormat hf
  | init | sleep | wait | getStatus | setStatus | erase | read | getJedecId | getUniqueId => cases h; rfl
  | _ => cases h

/-- What an instruction is encoded as decodes to it, whatever its address (R82, R84, R89, R100). -/
theorem decode_of_encode {i : Instr} {x : Encoded} (hf : i.fitsFormat = true) (h : encode i = x) :
    decode x = .ok i := by
  cases x with
  | frame b => exact decodeFrame_of_encodeFrame hf (encodeFrame_eq_some.2 h)
  | request r => exact decodeRequest_of_encode hf h

/-- Settles O2: the fitting byte strings are all that decoding asks for, and a well-formed instruction has them. -/
theorem decodeOfEncodeIsIdentity : Obligations.DecodeOfEncodeIsIdentity :=
  ⟨fun _ hw => decode_of_encode (Instr.fitsFormat_of_wellFormed hw) rfl, fun _ hf => decode_of_encode hf rfl⟩

/-- Settles O1: each word is what its instruction is encoded as, and number 10 names no operation. -/
theorem specWordsDecode : Obligations.SpecWordsDecode := by
  iterate 22 refine ⟨decode_of_encode rfl rfl, ?_⟩
  rfl

/-! ### Which frames decode -/

/-- The eleven opcodes, in the decoder's order (R87). -/
def opcodes : List Byte :=
  [0x01#8, 0x02#8, 0x03#8, 0x05#8, 0x06#8, 0x20#8, 0x4B#8, 0x52#8, 0xAB#8, 0xB9#8, 0x9F#8]

/-- A first byte that is no opcode selects no format (R83, R88). -/
theorem decodeFrame_of_foreign {op : Byte} (rest : List Byte) (h : op ∉ opcodes) :
    decodeFrame (op :: rest) = .error .unknownOpcode := by
  simp only [opcodes, List.mem_cons, List.not_mem_nil, or_false, not_or] at h
  simp only [decodeFrame, h, if_false]

/-- Settles O4: a foreign byte is none of the eleven opcodes. -/
theorem foreignOpcodesAreRefused : Obligations.ForeignOpcodesAreRefused :=
  fun _ rest => decodeFrame_of_foreign rest

/-- A frame decodes to a command of fitting byte strings alone (R82, R83). -/
theorem decodeFrame_fitsFormat {b : List Byte} {i : Instr} (h : decodeFrame b = .ok i) : i.fitsFormat = true := by
  have hb := encodeFrame_of_decodeFrame h
  cases i with
  | pageProgram a p =>
    cases hb
    obtain ⟨a', p', -, hi, hf⟩ := (decodeAddrData_ok (f := .pageProgram) (rest := addr3 a ++ p)).1 h
    exact hi ▸ hf
  | readUniqueId xs => cases hb; exact (checked_ok.1 h).2
  | jedecId xs => cases hb; exact (checked_ok.1 h).2
  | write d o n => cases hb
  | _ => rfl

section
variable {rest : List Byte}

theorem checked_decodes {i : Instr} {e : DecodeError} : (∃ j, checked i e = .ok j) ↔ i.fitsFormat = true := by
  simp [checked_ok]

theorem decodeOp_decodes {i : Instr} : (∃ j, decodeOp i rest = .ok j) ↔ rest.length = 0 := by
  simp [decodeOp_ok]

theorem decodeReg_decodes {f : Byte → Instr} : (∃ j, decodeReg f rest = .ok j) ↔ rest.length = 1 := by
  simp [decodeReg_ok, List.length_eq_one_iff]

theorem decodeAddr_decodes {f : FlashAddr → Instr} : (∃ j, decodeAddr f rest = .ok j) ↔ rest.length = 3 := by
  rcases rest with _ | ⟨a2, _ | ⟨a1, _ | ⟨a0, _ | ⟨b, rest⟩⟩⟩⟩ <;> simp [decodeAddr]

/-- An addressed frame decodes if the bytes after its address have a length that the command admits (R82, R89). -/
theorem decodeAddrData_decodes {f : FlashAddr → List Byte → Instr} {fits : Nat → Prop}
    (hfits : ∀ a p, (f a p).fitsFormat = true ↔ fits p.length) :
    (∃ j, decodeAddrData f rest = .ok j) ↔ 3 ≤ rest.length ∧ fits (rest.length - 3) := by
  rcases rest with _ | ⟨a2, _ | ⟨a1, _ | ⟨a0, p⟩⟩⟩ <;> simp [decodeAddrData, checked_decodes, hfits]

end

/-- A frame decodes exactly if its length fits the format of its opcode (R82, R83, R89). -/
theorem decodeFrame_decodes (op : Byte) (rest : List Byte) :
    (∃ i, decodeFrame (op :: rest) = .ok i) ↔ frameLengthFits op (op :: rest).length := by
  by_cases hop : op ∈ opcodes
  · simp only [opcodes, List.mem_cons, List.not_mem_nil, or_false] at hop
    obtain rfl | rfl | rfl | rfl | rfl | rfl | rfl | rfl | rfl | rfl | rfl := hop
    · exact decodeReg_decodes.trans (by simp [frameLengthFits])
    · have hlen : frameLengthFits 0x02#8 (rest.length + 1) ↔ 5 ≤ rest.length + 1 ∧ rest.length + 1 ≤ 260 := by
        simp [frameLengthFits]
      refine (decodeAddrData_decodes (fits := fun n => 1 ≤ n ∧ n ≤ 256) Instr.fitsFormat_pageProgram).trans ?_
      rw [List.length_cons, hlen]
      omega
    · exact (decodeAddrData_decodes (fits := fun _ => True) fun _ _ => iff_of_true rfl trivial).trans
        (by simp [frameLengthFits])
    · exact decodeReg_decodes.trans (by simp [frameLengthFits])
    · exact decodeOp_decodes.trans (by simp [frameLengthFits])
    · exact decodeAddr_decodes.trans (by simp [frameLengthFits])
    · exact checked_decodes.trans (by simp [frameLengthFits, Instr.fitsFormat])
    · exact decodeAddr_decodes.trans (by simp [frameLengthFits])
    · exact decodeOp_decodes.trans (by simp [frameLengthFits])
    · exact decodeOp_decodes.trans (by simp [frameLengthFits])
    · exact checked_decodes.trans (by simp [frameLengthFits, Instr.fitsFormat])
  · rw [decodeFrame_of_foreign rest hop]
    simp only [opcodes, List.mem_cons, List.not_mem_nil, or_false, not_or] at hop
    simp [frameLengthFits, hop]

/-- Settles O3: the lengths that decode, and whose frame it is that decodes. -/
theorem decodedFrameIsTheCommandsOwn : Obligations.DecodedFrameIsTheCommandsOwn :=
  ⟨decodeFrame_decodes, fun _ _ h =>
    ⟨encodeFrame_eq_some.1 (encodeFrame_of_decodeFrame h), decodeFrame_fitsFormat h, decodeFrame_isOperation h⟩⟩

/-! ### Requests without a meaning -/

/-- The numbers 10 to 15 name no operation (R102). -/
theorem decodeRequest_of_reserved {r : Request} (h : 10 ≤ r.op.toNat) :
    decodeRequest r = .error .reservedOperation := by
  have hne (k : BitVec 4) (hk : k.toNat < 10) : r.op ≠ k := by
    rintro rfl
    omega
  unfold decodeRequest
  iterate 10 rw [if_neg (hne _ (by decide))]

/-- A WRITE with data of another length stands for nothing (R28, D15). -/
theorem decodeRequest_of_dataLength {r : Request} {d : List Byte} (hop : r.op = 6#4) (hd : r.data = some d)
    (hne : d.length ≠ r.length.toNat) : decodeRequest r = .error .dataLength := by
  simp [decodeRequest, hop, hd, checked, Instr.fitsFormat, hne]

end Sys2Proof

namespace Sys2Proof.Machine

/-- Settles O6: what does not decode is refused by the step that reads it. -/
theorem reservedRequestsAreRefused : Obligations.ReservedRequestsAreRefused :=
  fun _ _ _ hf hs hq =>
    ⟨fun h => step_of_bad_request hf hs hq (decodeRequest_of_reserved h), fun _ hop hd hne =>
      step_of_bad_request hf hs hq (decodeRequest_of_dataLength hop hd hne)⟩

/-! ### The frames of the trace -/

/-- A trace grows legally by an event that is no frame, or a legal one. -/
theorem FramesLegal.append {s t : State} (hs : FramesLegal s) {e : Event} (ht : t.trace = s.trace ++ [e])
    (he : ∀ m r, e = .frame m r → r.length = m.length ∧ ∃ i, decodeFrame m = .ok i ∧ i.wellFormed = true) :
    FramesLegal t := by
  intro m r hm
  rw [ht, List.mem_append, List.mem_singleton] at hm
  exact hm.elim (hs m r) fun h => he m r h.symm

/-- Sending the frame of a well-formed command, one byte is received for each byte sent (R80). -/
theorem FramesLegal.sent {s : State} (hs : FramesLegal s) {b : List Byte} {i : Instr} (hd : decodeFrame b = .ok i)
    (hw : i.wellFormed = true) : FramesLegal (s.sent i) := by
  have hb : (encodeFrame i).getD [] = b := by rw [encodeFrame_of_decodeFrame hd, Option.getD_some]
  have hlen := s.received_length (Instr.fitsFormat_of_wellFormed hw)
  refine hs.append rfl fun m r hm => ?_
  obtain ⟨rfl, rfl⟩ := Event.frame.inj hm
  exact ⟨hlen, i, hb ▸ hd, hw⟩

/-- A point adds no frame. -/
theorem FramesLegal.point {s t : State} (hs : FramesLegal s) (h : PointMove s t) : FramesLegal t := by
  obtain ht | ⟨e, ht, he⟩ := h.trace
  · exact fun m r hm => hs m r (ht ▸ hm)
  · exact hs.append ht fun m r hm => absurd hm (he m r)

/-- Settles O55: the composed frame of a coherent state is a well-formed command's, and a point adds no frame. -/
theorem tracedFramesStayLegal : Obligations.TracedFramesStayLegal := by
  intro s t hc hs h
  obtain rfl | ⟨b, i, hf, hd, he⟩ | ⟨requests, req, -, hm⟩ := step_moves h
  · exact hs
  · obtain ⟨-, rfl⟩ := (wire_next (decodeFrame_isOperation hd)).1 he
    obtain ⟨j, hj, hw⟩ := hc.legal b hf
    obtain rfl := Except.ok.inj (hd.symm.trans hj)
    exact hs.sent hd hw
  · exact .point (s := { s with requests := requests, req := req }) hs hm

end Sys2Proof.Machine
end

section
/-! PROOFS. The power states (R121 to R126): what a power command leaves once its frame is sent, `Wake()` at the point each
operation begins with, and the run of SLEEP. -/

namespace Sys2Proof.Machine

/-! ### Sending a frame -/

/-- One byte is received for each byte sent (R80). -/
theorem sentFrame_sent (s : State) {i : Instr} {b : List Byte} (hw : i.fitsFormat = true)
    (hb : encodeFrame i = some b) : SentFrame b s (s.sent i) := by
  obtain rfl : (encodeFrame i).getD [] = b := by rw [hb, Option.getD_some]
  exact ⟨rfl, s.received_length hw, rfl, rfl⟩

theorem sameOperation_sent (s : State) (i : Instr) : SameOperation s (s.sent i) :=
  ⟨rfl, rfl, rfl, rfl, rfl, rfl, rfl, rfl, rfl, rfl, rfl, rfl, rfl, rfl, rfl, rfl, rfl⟩

/-- A wire command on a configured bus sends its frame. -/
theorem exec_wire_of_configured {i : Instr} {s : State} (hi : i.isOperation = false) (hs : s.transportReady = true) :
    exec i s = .next (s.sent i) := by
  rw [exec_wire s hi, onBus_next]
  exact ⟨hs, rfl⟩

/-- The step after a command was composed sends it (log 9). -/
theorem step_of_composed {i : Instr} {s : State} {b : List Byte} (hi : i.isOperation = false) (hw : i.fitsFormat = true)
    (hb : encodeFrame i = some b) (hf : s.frame = some b) (hs : s.transportReady = true) : step s = .next (s.sent i) :=
  (step_of_frame hf (decodeFrame_of_encodeFrame hw hb)).trans (exec_wire_of_configured hi hs)

/-- Settles O14: every wire command sends over the bus, which answers with the fault. -/
theorem framesNeedAConfiguredBus : Obligations.FramesNeedAConfiguredBus := by
  intro i s hi hs
  simp [exec_wire s hi, State.onBus, hs]

/-- Settles O13: both power commands send their frame, and `powerAfter` is what each leaves of the flag. -/
theorem powerCommandsMoveTheMirror : Obligations.PowerCommandsMoveTheMirror := fun s hs =>
  ⟨⟨s.sent .releasePowerDown, exec_wire_of_configured rfl hs, sentFrame_sent s rfl rfl, rfl, sameOperation_sent s _, rfl⟩,
    ⟨s.sent .powerDown, exec_wire_of_configured rfl hs, sentFrame_sent s rfl rfl, rfl, sameOperation_sent s _, rfl⟩⟩

/-! ### `Wake()` -/

/-- The points at which an operation calls `Wake()` first (R123). -/
def WakePoint (i : Instr) (s : State) : Prop :=
  s.seq = .wait .start ∧ i = .wait ∨ s.seq = .getStatus .poll ∧ i = .getStatus ∨
    s.seq = .setStatus .wake ∧ (∃ v, i = .setStatus v) ∨ s.seq = .erase .wake ∧ (∃ o n, i = .erase o n) ∨
    s.seq = .write .wake ∧ (∃ d o n, i = .write d o n) ∨ s.seq = .read .wake ∧ (∃ o n, i = .read o n) ∨
    s.seq = .getJedecId .wake ∧ i = .getJedecId ∨ s.seq = .getUniqueId .wake ∧ i = .getUniqueId

/-- At its wake point an operation calls `Wake()`, then leaves the point with no release frame composed. -/
theorem exec_wakePoint {i : Instr} {s : State} (h : WakePoint i s) (hf : s.frame = none) :
    ∃ go : State → State, exec i s = .next (s.wakeThen go) ∧ (go s).seq ≠ s.seq ∧ (go s).frame ≠ some [0xAB#8] := by
  obtain ⟨hs, rfl⟩ | ⟨hs, rfl⟩ | ⟨hs, v, rfl⟩ | ⟨hs, o, n, rfl⟩ | ⟨hs, d, o, n, rfl⟩ | ⟨hs, o, n, rfl⟩ | ⟨hs, rfl⟩ |
    ⟨hs, rfl⟩ := h
  · exact ⟨fun s => s.markStart.goto (.wait .poll), by simp only [exec, execWait, hs, State.waitStep], by simp [hs],
      by simp [hf]⟩
  · exact ⟨fun s => s.postPoll.goto (.getStatus .finish), by simp only [exec, execGetStatus, hs], by simp [hs], by simp⟩
  · exact ⟨fun s => s.goto (.setStatus .wen), by simp only [exec, execSetStatus, hs], by simp [hs], by simp [hf]⟩
  · exact ⟨fun s => { s with cur := o.toNat, rem := n.toNat }.goto (.erase .blocks), by simp only [exec, execErase, hs],
      by simp [hs], by simp [hf]⟩
  · exact ⟨fun s => { s with cur := o.toNat, rem := n.toNat, idx := 0 }.goto (.write .chunks),
      by simp only [exec, execWrite, hs], by simp [hs], by simp [hf]⟩
  · exact ⟨fun s => s.goto (.read .cmd), by simp only [exec, execRead, hs], by simp [hs], by simp [hf]⟩
  · exact ⟨fun s => s.goto (.getJedecId .cmd), by simp only [exec, execGetJedecId, hs], by simp [hs], by simp [hf]⟩
  · exact ⟨fun s => s.goto (.getUniqueId .cmd), by simp only [exec, execGetUniqueId, hs], by simp [hs], by simp [hf]⟩

/-- The step after a release frame was composed sends it and clears the flag, with no clock read (R123). -/
theorem step_of_release_composed {s : State} (hs : s.transportReady = true) :
    ∃ u, step (s.post .releasePowerDown) = .next u ∧ SentFrame [0xAB#8] s u ∧ SameOperation s u ∧
      u.poweredDown = false ∧ u.st = s.st :=
  ⟨(s.post .releasePowerDown).sent .releasePowerDown, step_of_composed rfl rfl rfl rfl hs,
    sentFrame_sent (s.post .releasePowerDown) rfl rfl, sameOperation_sent (s.post .releasePowerDown) _, rfl, rfl⟩

/-- Settles O25: the operation composes the release frame, which the next step sends, or goes on. -/
theorem wakeReleasesOnceOrDoesNothing : Obligations.WakeReleasesOnceOrDoesNothing := by
  intro i s hf h
  obtain ⟨go, he, hseq, hframe⟩ := exec_wakePoint h hf
  rw [he]
  obtain ⟨hp, hw⟩ | ⟨hp, hw⟩ := wakeThen_cases s go <;> rw [hw]
  · exact ⟨fun _ => ⟨rfl, step_of_release_composed⟩, fun hn => nomatch hp.symm.trans hn⟩
  · exact ⟨fun hn => (nomatch hp.symm.trans hn), fun _ => ⟨go s, rfl, hseq, hframe⟩⟩

/-! ### SLEEP -/

theorem steps_succ_of_step {s t : State} (h : step s = .next t) (n : Nat) : steps (n + 1) s = steps n t := by
  simp only [steps, h]

/-- SLEEP in PoweredDown is answered as it is accepted; in Active it goes to its command (R126). -/
theorem execSleep_idle {s : State} (hs : s.seq = .idle) (hi : s.inited = true) :
    exec .sleep s = .next (if s.poweredDown then s.accept.answer .success else s.accept.goto (.sleep .cmd)) := by
  simp only [exec, execSleep, hs]
  exact begin_of_inited hi _

/-- SLEEP with its power-down frame composed. -/
def State.sleepComposed (s : State) : State := (s.post .powerDown).goto (.sleep .finish)

theorem execSleep_cmd {s : State} (hs : s.seq = .sleep .cmd) :
    exec .sleep s = .next s.sleepComposed := by
  simp only [exec, execSleep, hs, State.sleepComposed]

theorem execSleep_finish {s : State} (hs : s.seq = .sleep .finish) : exec .sleep s = .next (s.answer .success) := by
  simp only [exec, execSleep, hs]

/-- SLEEP with its power-down frame sent and its answer given. -/
def State.slept (s : State) : State := (s.sleepComposed.sent .powerDown).answer .success

/-- From its command SLEEP composes its frame, sends it and answers (R126; log 9). -/
theorem steps_sleep_cmd {s : State} {r : Request} (hs : s.seq = .sleep .cmd) (hf : s.frame = none)
    (hr : s.req = some r) (hd : decodeRequest r = .ok .sleep) (hb : s.transportReady = true) :
    steps 3 s = .next s.slept := by
  have composes : step s = .next s.sleepComposed :=
    (step_of_running hf (hs ▸ nofun) hr hd).trans (execSleep_cmd hs)
  have sends : step s.sleepComposed = .next (s.sleepComposed.sent .powerDown) :=
    step_of_composed rfl rfl rfl rfl hb
  have answers : step (s.sleepComposed.sent .powerDown) = .next s.slept :=
    (step_of_running (s := s.sleepComposed.sent .powerDown) rfl nofun hr hd).trans (execSleep_finish rfl)
  rw [steps_succ_of_step composes, steps_succ_of_step sends, steps_succ_of_step answers]
  rfl

theorem slept_sent (s : State) :
    s.slept.miso.length = 1 ∧ s.slept.trace = s.trace ++ [.frame [0xB9#8] s.slept.miso] := by
  obtain ⟨htrace, hlen, -⟩ := sentFrame_sent s.sleepComposed (i := .powerDown) rfl rfl
  exact ⟨hlen, htrace⟩

theorem sameWork_slept (s : State) : SameWork s s.slept :=
  ⟨rfl, rfl, rfl, rfl, rfl, rfl, rfl, rfl, rfl, rfl, rfl⟩

/-- Settles O23: from Active the run through SLEEP's command, from PoweredDown the answer at once. -/
theorem sleepIsIdempotent : Obligations.SleepIsIdempotent := by
  rintro s ⟨⟨hs, hf, r, hr, hd⟩, hi, hb⟩
  have accepted := execSleep_idle hs hi
  refine ⟨fun hp => ?_, fun hp => ?_⟩ <;> rw [hp] at accepted
  · obtain ⟨hlen, htrace⟩ := slept_sent (s.accept.goto (.sleep .cmd))
    exact ⟨_, _, ⟨_, accepted, 3, steps_sleep_cmd rfl hf hr hd hb⟩, ⟨rfl, rfl, rfl, rfl⟩, rfl, hlen, htrace,
      sameWork_slept (s.accept.goto (.sleep .cmd)), rfl, rfl, rfl, rfl⟩
  · rw [accepted]
    simp only [if_true, State.accept, State.answer, State.respond, hs]

end Sys2Proof.Machine
end

section
/-! PROOFS. The wire commands that move bytes (R141 to R143, R160, R161, R186, R196, R206, R209): what is sent, what is
received, and what stays. -/

namespace Sys2Proof.Machine

/-- One byte is received per byte sent if the chip drives one position per byte sent (R80). -/
theorem State.received_length_of_reply (s : State) {i : Instr} {n : Nat}
    (h : (s.chip.reply s.flashSize i).length = n) : (s.received i n).length = n := by
  unfold State.received
  cases s.answers <;> simp [h]

/-- A PAGE PROGRAM frame is sent whatever the length of its payload: the chip drives none of its positions (R186). -/
theorem sentFrame_pageProgram (s : State) (a : FlashAddr) (p : List Byte) :
    SentFrame ([0x02#8] ++ addr3 a ++ p) s (s.sent (.pageProgram a p)) :=
  ⟨rfl, s.received_length_of_reply List.length_replicate, rfl, rfl⟩

/-- A command that moves neither the mirror nor the status byte completes with nothing of the sequencer changed. -/
theorem exec_plain {i : Instr} {b : List Byte} {s : State} (hs : s.transportReady = true) (hi : i.isOperation = false)
    (hsent : SentFrame b s (s.sent i)) (hp : powerAfter i s.poweredDown = s.poweredDown)
    (hst : statusAfter i (s.transmit i).miso s.st = s.st) :
    ∃ t, exec i s = .next t ∧ SentFrame b s t ∧ SameOperation s t ∧ t.poweredDown = s.poweredDown ∧ t.st = s.st :=
  ⟨s.sent i, exec_wire_of_configured hi hs, hsent, sameOperation_sent s i, hp, hst⟩

/-- Settles O11: each of the eight sends its own frame, and only the two identity queries ask for a length. -/
theorem plainCommandsSendTheirFrame : Obligations.PlainCommandsSendTheirFrame := fun s v a p xs hs =>
  ⟨exec_plain hs rfl (sentFrame_sent (i := .writeEnable) s rfl rfl) rfl rfl,
    exec_plain hs rfl (sentFrame_sent (i := .writeStatusRegister v) s rfl rfl) rfl rfl,
    exec_plain hs rfl (sentFrame_pageProgram s a p) rfl rfl,
    exec_plain hs rfl (sentFrame_sent (i := .sectorErase4k a) s rfl rfl) rfl rfl,
    exec_plain hs rfl (sentFrame_sent (i := .blockErase32k a) s rfl rfl) rfl rfl,
    exec_plain hs rfl (sentFrame_sent (i := .readData a xs) s rfl rfl) rfl rfl,
    fun h => exec_plain hs rfl (sentFrame_sent (i := .jedecId xs) s (decide_eq_true h) rfl) rfl rfl,
    fun h => exec_plain hs rfl (sentFrame_sent (i := .readUniqueId xs) s (decide_eq_true h) rfl) rfl rfl⟩

/-- The two bytes that a status read receives, of which the second becomes the status byte (R141). -/
theorem sent_readStatus_miso (s : State) (x : Byte) :
    ∃ b0, (s.sent (.readStatusRegister x)).miso = [b0, (s.sent (.readStatusRegister x)).st] := by
  obtain ⟨b0, b1, hm⟩ := List.length_eq_two.1 (s.received_length (i := .readStatusRegister x) rfl)
  exact ⟨b0, hm.trans (congrArg (fun m => [b0, m.getD 1 0]) hm.symm)⟩

/-- Settles O12: the frame is two bytes long, so that two are received. -/
theorem statusReadKeepsTheSecondByte : Obligations.StatusReadKeepsTheSecondByte := by
  intro s x hs
  obtain ⟨b0, hm⟩ := sent_readStatus_miso s x
  exact ⟨s.sent (.readStatusRegister x), b0, _, exec_wire_of_configured rfl hs, sentFrame_sent s rfl rfl, hm, rfl,
    sameOperation_sent s _, rfl⟩

end Sys2Proof.Machine
end

section
/-! PROOFS. How a running operation goes on: it sends a frame in two steps, and wakes the chip before its first (R123).
From it the runs of GET_STATUS (R147) and of SET_STATUS up to its `Wait()` (R151). -/

namespace Sys2Proof.Machine

/-! ### A running operation -/

/-- The operation `i` runs on a configured bus, and no frame waits to be sent. -/
structure Running (i : Instr) (s : State) : Prop where
  noFrame : s.frame = none
  notIdle : s.seq ≠ .idle
  onBus   : s.transportReady = true
  holds   : ∃ r, s.req = some r ∧ decodeRequest r = .ok i

section
variable {i j : Instr} {s t u : State} {v : Byte}

theorem Running.step (h : Running i s) : step s = exec i s := by
  obtain ⟨r, hr, hd⟩ := h.holds
  exact step_of_running h.noFrame h.notIdle hr hd

/-- An operation still runs where REQ and the bus are the same and the point is not IDLE. -/
theorem Running.congr (h : Running i s) (hf : t.frame = none) (hk : t.seq ≠ .idle)
    (hb : t.transportReady = s.transportReady) (hr : t.req = s.req) : Running i t :=
  ⟨hf, hk, hb.trans h.onBus, hr ▸ h.holds⟩

theorem Running.goto (h : Running i s) {k : Seq} (hk : k ≠ .idle) : Running i (s.goto k) :=
  h.congr h.noFrame hk rfl rfl

/-- An accepted operation runs (R27). -/
theorem Ready.running (h : Ready i s) {k : Seq} (hk : k ≠ .idle) : Running i (s.accept.goto k) := by
  obtain ⟨⟨-, hf, hr⟩, -, hb⟩ := h
  exact ⟨hf, hk, hb, hr⟩

theorem steps_add {m : Nat} (h : steps m s = .next t) (n : Nat) : steps (m + n) s = steps n t := by
  induction m generalizing s with
  | zero =>
    obtain rfl := Host.Outcome.next.inj h
    rw [Nat.zero_add]
  | succ m ih =>
    rw [Nat.succ_add]
    cases hs : Machine.step s with
    | next v =>
      rw [steps_succ_of_step hs] at h ⊢
      exact ih h
    | fault r => simp [steps, hs] at h
    | refused r => simp [steps, hs] at h

theorem steps_trans {m n : Nat} (h : steps m s = .next t) (k : steps n t = .next u) : steps (m + n) s = .next u :=
  (steps_add h n).trans k

theorem steps_one (h : Machine.step s = .next t) : steps 1 s = .next t := steps_succ_of_step h 0

/-! ### What an operation that does not wait leaves unchanged -/

theorem SameWork.trans (h : SameWork s t) (k : SameWork t u) : SameWork s u := by
  obtain ⟨hsize, hreq, hcur, hrem, hchunk, hidx, ht0, hreqs, hans, hticks, hclock⟩ := h
  simpa only [SameWork, hsize, hreq, hcur, hrem, hchunk, hidx, ht0, hreqs, hans, hticks, hclock] using k

theorem sameWork_accept (s : State) : SameWork s s.accept := ⟨rfl, rfl, rfl, rfl, rfl, rfl, rfl, rfl, rfl, rfl, rfl⟩

theorem SameWork.goto (h : SameWork s t) (k : Seq) : SameWork s (t.goto k) :=
  h.trans ⟨rfl, rfl, rfl, rfl, rfl, rfl, rfl, rfl, rfl, rfl, rfl⟩

theorem SameWork.respond (h : SameWork s t) (r : Result) (x : Option RespValue) (d : Option (List Byte)) :
    SameWork s (t.respond r x d) :=
  h.trans ⟨rfl, rfl, rfl, rfl, rfl, rfl, rfl, rfl, rfl, rfl, rfl⟩

/-! ### A frame in two steps -/

/-- The command `j` composed, the point left for `k`, and the command sent (log 9). -/
def State.issued (s : State) (j : Instr) (k : Seq) : State := ((s.post j).goto k).sent j

/-- A point that composes a command and goes on has it sent in the next step. -/
theorem Running.issues (h : Running i s) {k : Seq} (he : exec i s = .next ((t.post j).goto k))
    (ht : t.transportReady = true) (hj : j.isOperation = false) (hw : j.fitsFormat = true) {b : List Byte}
    (hb : encodeFrame j = some b) : steps 2 s = .next (t.issued j k) :=
  steps_trans (steps_one (h.step.trans he)) (steps_one (step_of_composed hj hw hb hb ht))

/-- What is issued is one frame (R80). -/
theorem sentFrame_issued (s : State) (k : Seq) (hw : j.fitsFormat = true) {b : List Byte}
    (hb : encodeFrame j = some b) : SentFrame b s (s.issued j k) :=
  sentFrame_sent ((s.post j).goto k) hw hb

theorem Running.issued (h : Running i s) (j : Instr) {k : Seq} (hk : k ≠ .idle) : Running i (s.issued j k) :=
  h.congr rfl hk rfl rfl

theorem SameWork.issued (h : SameWork s t) (j : Instr) (k : Seq) : SameWork s (t.issued j k) :=
  h.trans ⟨rfl, rfl, rfl, rfl, rfl, rfl, rfl, rfl, rfl, rfl, rfl⟩

@[simp] theorem issued_inited (s : State) (j : Instr) (k : Seq) : (s.issued j k).inited = s.inited := rfl
@[simp] theorem issued_resp (s : State) (j : Instr) (k : Seq) : (s.issued j k).resp = s.resp := rfl
@[simp] theorem issued_responses (s : State) (j : Instr) (k : Seq) : (s.issued j k).responses = s.responses := rfl

/-- The next filler byte. -/
def State.nextFiller (s : State) : Byte := s.fill.peek Config.freeFill 0

/-- One status poll made (R146): the filler drawn, the frame sent, and the status byte received. -/
def State.polled (s : State) (k : Seq) : State := (s.tookFillers 1).issued (.readStatusRegister s.nextFiller) k

theorem Running.polled (h : Running i s) {k : Seq} (hk : k ≠ .idle) : Running i (s.polled k) :=
  (h.congr (t := s.tookFillers 1) h.noFrame h.notIdle rfl rfl).issued _ hk

theorem SameWork.polled (h : SameWork s t) (k : Seq) : SameWork s (t.polled k) :=
  (h.trans (u := t.tookFillers 1) ⟨rfl, rfl, rfl, rfl, rfl, rfl, rfl, rfl, rfl, rfl, rfl⟩).issued _ k

/-- A point that composes a status poll and goes on has it sent in the next step. -/
theorem Running.polls (h : Running i s) {k : Seq} (he : exec i s = .next (s.postPoll.goto k)) :
    steps 2 s = .next (s.polled k) :=
  h.issues he h.onBus rfl rfl rfl

/-- The event of a poll; its second received byte is the status byte (R141). -/
theorem polled_trace (s : State) (k : Seq) :
    ∃ b0, (s.polled k).trace = s.trace ++ [.frame [0x05#8, s.nextFiller] [b0, (s.polled k).st]] := by
  obtain ⟨b0, hm⟩ := sent_readStatus_miso
    (((s.tookFillers 1).post (.readStatusRegister s.nextFiller)).goto k) s.nextFiller
  obtain ⟨htrace, -⟩ := sentFrame_issued (s.tookFillers 1) (j := .readStatusRegister s.nextFiller) k rfl rfl
  exact ⟨b0, htrace.trans (congrArg (fun m => s.trace ++ [.frame [0x05#8, s.nextFiller] m]) hm)⟩

/-! ### `Wake()` run to its end -/

/-- The events that `Wake()` adds (R123). -/
def State.wakeTrace (s : State) : List Event :=
  if s.poweredDown then [.frame [0xAB#8] (s.received .releasePowerDown 1)] else []

theorem wakeEvents_wakeTrace (s : State) : WakeEvents s s.wakeTrace := by
  unfold WakeEvents State.wakeTrace
  split
  · exact ⟨_, s.received_length (i := .releasePowerDown) rfl, rfl⟩
  · rfl

/-- After `Wake()` (R123): the mirror is clear, and only what a release frame moves has moved, if one was needed. -/
def State.woken (s : State) : State :=
  { s with
    poweredDown := false
    trace := s.trace ++ s.wakeTrace
    rx := s.rx.skip (wakeBytes s)
    miso := if s.poweredDown then (s.sent .releasePowerDown).miso else s.miso
    chip := if s.poweredDown then (s.sent .releasePowerDown).chip else s.chip }

theorem SameWork.woken (h : SameWork s t) : SameWork s t.woken :=
  h.trans ⟨rfl, rfl, rfl, rfl, rfl, rfl, rfl, rfl, rfl, rfl, rfl⟩

theorem woken_of_awake (hp : s.poweredDown = false) : s.woken = s := by
  unfold State.woken State.wakeTrace wakeBytes
  simp only [hp, Bool.false_eq_true, if_false, List.append_nil]
  exact congrArg (fun b => { s with poweredDown := b }) hp.symm

theorem issued_release_eq_woken (hf : s.frame = none) (hp : s.poweredDown = true) :
    s.issued .releasePowerDown s.seq = s.woken := by
  unfold State.woken State.wakeTrace wakeBytes
  simp only [hp, if_true]
  exact congrArg (fun f => { s.issued .releasePowerDown s.seq with frame := f }) hf.symm

/-- An operation at a point that calls `Wake()` comes to that point with the chip awake. -/
theorem Running.wakes (h : Running i s) {go : State → State} (he : exec i s = .next (s.wakeThen go)) :
    steps (2 * wakeBytes s) s = .next s.woken := by
  obtain ⟨hp, hw⟩ | ⟨hp, -⟩ := wakeThen_cases s go
  · rw [← issued_release_eq_woken h.noFrame hp, wakeBytes, hp]
    exact h.issues (he.trans (congrArg _ hw)) h.onBus rfl rfl rfl
  · rw [woken_of_awake hp, wakeBytes, hp]
    rfl

theorem Running.woken (h : Running i s) : Running i s.woken := h.congr h.noFrame h.notIdle rfl rfl

theorem wakeThen_of_asleep (hp : s.poweredDown = true) (go : State → State) :
    s.wakeThen go = s.post .releasePowerDown := by
  simp only [State.wakeThen, hp, if_true]

theorem wakeThen_of_awake (hp : s.poweredDown = false) (go : State → State) : s.wakeThen go = go s := by
  simp only [State.wakeThen, hp, Bool.false_eq_true, if_false]

/-! ### GET_STATUS -/

theorem execGetStatus_poll (hs : s.seq = .getStatus .poll) :
    exec .getStatus s = .next (s.wakeThen fun s => s.postPoll.goto (.getStatus .finish)) := by
  simp only [exec, execGetStatus, hs]

theorem execGetStatus_finish (hs : s.seq = .getStatus .finish) :
    exec .getStatus s = .next (s.respond .success (some (s.st.setWidth 64)) none) := by
  simp only [exec, execGetStatus, hs]

/-- GET_STATUS accepted and the chip awake. -/
def State.statusAwake (s : State) : State := (s.accept.goto (.getStatus .poll)).woken

/-- GET_STATUS with its status read and answered. -/
def State.statusAnswered (s : State) : State :=
  let t := s.statusAwake.polled (.getStatus .finish)
  t.respond .success (some (t.st.setWidth 64)) none

theorem sameWork_statusAnswered (s : State) : SameWork s s.statusAnswered :=
  (((sameWork_accept s).goto _).woken.polled _).respond _ _ _

/-- GET_STATUS wakes, polls once and answers (R147). -/
theorem completes_getStatus (h : Ready .getStatus s) : Completes .getStatus s s.statusAnswered := by
  have ⟨⟨hs, _⟩, hi, _⟩ := h
  have starts := h.running (k := .getStatus .poll) nofun
  have wakes := starts.wakes (execGetStatus_poll rfl)
  have polls := starts.woken.polls (execGetStatus_poll rfl)
  have ends := (starts.woken.polled (k := .getStatus .finish) nofun).step.trans (execGetStatus_finish rfl)
  exact ⟨_, (acceptedOperationsStart s 0 hs hi).2.1, _, steps_trans (steps_trans wakes polls) (steps_one ends)⟩

/-- Settles O28: the run of GET_STATUS, whose one poll receives the status byte. -/
theorem getStatusReturnsTheRawByte : Obligations.GetStatusReturnsTheRawByte := by
  intro s h
  obtain ⟨b0, htrace⟩ := polled_trace s.statusAwake (.getStatus .finish)
  exact ⟨s.statusAnswered, _, _, b0, _, completes_getStatus h, wakeEvents_wakeTrace s,
    htrace, ⟨rfl, rfl, rfl, rfl⟩, rfl, rfl, sameWork_statusAnswered s, rfl, rfl⟩

/-! ### SET_STATUS up to its `Wait()` -/

theorem execSetStatus_wake (v : Byte) (hs : s.seq = .setStatus .wake) :
    exec (.setStatus v) s = .next (s.wakeThen fun s => s.goto (.setStatus .wen)) := by
  simp only [exec, execSetStatus, hs]

theorem execSetStatus_wen (v : Byte) (hs : s.seq = .setStatus .wen) :
    exec (.setStatus v) s = .next ((s.post .writeEnable).goto (.setStatus .cmd)) := by
  simp only [exec, execSetStatus, hs]

theorem execSetStatus_cmd (v : Byte) (hs : s.seq = .setStatus .cmd) :
    exec (.setStatus v) s = .next ((s.post (.writeStatusRegister v)).goto (.setStatus (.waiting .start))) := by
  simp only [exec, execSetStatus, hs]

/-- SET_STATUS before its latch, the chip awake. -/
def State.beforeLatch (s : State) : State := (s.accept.goto (.setStatus .wake)).woken.goto (.setStatus .wen)

/-- SET_STATUS with its latch sent. -/
def State.statusLatched (s : State) : State := s.beforeLatch.issued .writeEnable (.setStatus .cmd)

/-- SET_STATUS with its latch and its value sent, at the start of its `Wait()`. -/
def State.statusWritten (s : State) (v : Byte) : State :=
  s.statusLatched.issued (.writeStatusRegister v) (.setStatus (.waiting .start))

theorem sameWork_statusWritten (s : State) (v : Byte) : SameWork s (s.statusWritten v) :=
  ((((sameWork_accept s).goto _).woken.goto _).issued _ _).issued _ _

/-- What `SameWork` does not say of the run of SET_STATUS up to its `Wait()` (log 19). -/
theorem statusWritten_kept (s : State) (v : Byte) :
    (s.statusWritten v).inited = s.inited ∧ (s.statusWritten v).resp = none ∧
      (s.statusWritten v).responses = s.responses := by
  simp only [State.statusWritten, State.statusLatched, issued_inited, issued_resp, issued_responses]
  exact ⟨rfl, rfl, rfl⟩

/-- SET_STATUS wakes, sends the latch and the value, and comes to its `Wait()` (R151). -/
theorem setStatus_reaches_wait (h : Ready (.setStatus v) s) :
    ∃ t n, exec (.setStatus v) s = .next t ∧ steps n t = .next (s.statusWritten v) ∧
      Running (.setStatus v) (s.statusWritten v) := by
  have ⟨⟨hs, _⟩, hi, _⟩ := h
  have starts := h.running (k := .setStatus .wake) nofun
  have atLatch : Running (.setStatus v) s.beforeLatch := starts.woken.goto nofun
  have atValue : Running (.setStatus v) s.statusLatched := atLatch.issued _ nofun
  have wakes := starts.wakes (execSetStatus_wake v rfl)
  have goes := steps_one (starts.woken.step.trans (execSetStatus_wake v rfl))
  have latches := atLatch.issues (execSetStatus_wen v rfl) atLatch.onBus rfl rfl rfl
  have writes := atValue.issues (execSetStatus_cmd v rfl) atValue.onBus rfl rfl rfl
  exact ⟨_, _, (acceptedOperationsStart s v hs hi).2.2.1,
    steps_trans (steps_trans (steps_trans wakes goes) latches) writes, atValue.issued _ nofun⟩

/-- The two frames of SET_STATUS (R151). -/
theorem statusWritten_trace (s : State) (v : Byte) :
    ∃ m1 m2 : List Byte, m1.length = 1 ∧ m2.length = 2 ∧
      (s.statusWritten v).trace = s.trace ++ s.wakeTrace ++
        [.frame [0x06#8] m1, .frame [0x01#8, v] m2] := by
  obtain ⟨hlatch, hlen1, -⟩ := sentFrame_issued (j := .writeEnable) s.beforeLatch (.setStatus .cmd) rfl rfl
  obtain ⟨hvalue, hlen2, -⟩ := sentFrame_issued (j := .writeStatusRegister v) s.statusLatched
    (.setStatus (.waiting .start)) rfl rfl
  exact ⟨_, _, hlen1, hlen2, hvalue.trans ((congrArg (· ++ _) hlatch).trans (List.append_assoc _ _ _))⟩

/-- Settles O34: the run of SET_STATUS up to its `Wait()`, and the two frames it has sent. -/
theorem setStatusSendsLatchThenValue : Obligations.SetStatusSendsLatchThenValue := by
  intro s v h
  obtain ⟨t, n, he, hn, -⟩ := setStatus_reaches_wait h
  obtain ⟨m1, m2, hlen1, hlen2, htrace⟩ := statusWritten_trace s v
  obtain ⟨-, hresp, hresponses⟩ := statusWritten_kept s v
  exact ⟨s.statusWritten v, _, m1, m2, ⟨t, he, n, hn⟩, wakeEvents_wakeTrace s, hlen1, hlen2, htrace, rfl, rfl, hresp,
    hresponses, rfl, sameWork_statusWritten s v⟩

end

end Sys2Proof.Machine
end

section
/-! PROOFS. `Wait()`, point by point, at each of the five places it is called from (R148, R152, R221). -/

namespace Sys2Proof.Machine

/-! ### The places of `Wait()` -/

/-- Where the result of the `Wait()` of a place goes. -/
def WaitPlace.done : WaitPlace → Result → State → State
  | .eraseUnit u => eraseUnitDone u
  | .writeChunk => writeChunkReady
  | .wait => fun r s => s.answer r
  | .setStatus => fun r s => s.answer r
  | .writeLast => fun r s => s.answer r

theorem WaitPlace.done_success (p : WaitPlace) (s : State) : p.done .success s = p.succeeded s := by
  cases p with
  | eraseUnit u => cases u <;> rfl
  | _ => rfl

/-- A Timeout ends the operation at every place (R152, R221). -/
theorem WaitPlace.done_timeout (p : WaitPlace) (s : State) : p.done .timeout s = s.answer .timeout := by
  cases p <;> rfl

theorem WaitPlace.at_ne_idle (p : WaitPlace) (w : WaitPoint) : p.at_ w ≠ .idle := by
  cases p <;> exact nofun

/-! ### The points -/

section
variable {p : WaitPlace} {i : Instr} {s : State}

/-- At a point of its `Wait()` an operation does what `Wait()` does there. -/
theorem exec_waitPoint (hi : p.belongs i = true) {w : WaitPoint} (hs : s.seq = p.at_ w) :
    exec i s = .next (s.waitStep p.at_ p.done w) := by
  cases p with
  | wait =>
    obtain rfl := of_decide_eq_true hi
    simp only [exec, execWait, hs, WaitPlace.at_]
    rfl
  | setStatus =>
    cases i with
    | setStatus v => simp only [exec, execSetStatus, hs, WaitPlace.at_]; rfl
    | _ => cases hi
  | eraseUnit u =>
    cases i with
    | erase o n => simp only [exec, execErase, hs, WaitPlace.at_]; rfl
    | _ => cases hi
  | writeChunk =>
    cases i with
    | write d o n => simp only [exec, execWrite, hs, WaitPlace.at_]; rfl
    | _ => cases hi
  | writeLast =>
    cases i with
    | write d o n => simp only [exec, execWrite, hs, WaitPlace.at_]; rfl
    | _ => cases hi

theorem exec_wait_start (hi : p.belongs i = true) (hs : s.seq = p.at_ .start) :
    exec i s = .next (s.wakeThen fun s => s.markStart.goto (p.at_ .poll)) := exec_waitPoint hi hs

theorem exec_wait_poll (hi : p.belongs i = true) (hs : s.seq = p.at_ .poll) :
    exec i s = .next (s.wakeThen fun s => s.postPoll.goto (p.at_ .test)) := exec_waitPoint hi hs

theorem exec_wait_test_idle (hi : p.belongs i = true) (hs : s.seq = p.at_ .test) (hb : busyBit s.st = false) :
    exec i s = .next (p.succeeded s) := by
  rw [exec_waitPoint hi hs, State.waitStep, hb, p.done_success]
  rfl

theorem exec_wait_test_busy (hi : p.belongs i = true) (hs : s.seq = p.at_ .test) (hb : busyBit s.st = true) :
    exec i s = .next (s.goto (p.at_ .time)) := by
  rw [exec_waitPoint hi hs, State.waitStep, hb]
  rfl

/-- The time test is strict (R148, C1). -/
theorem timedOut_eq_true {t0 t : Nat} : timedOut t0 t = true ↔ t - t0 > 800 := decide_eq_true_iff

theorem exec_wait_time_over (hi : p.belongs i = true) (hs : s.seq = p.at_ .time)
    (ht : s.readClock.clock - s.t0 > 800) : exec i s = .next (s.readClock.answer .timeout) := by
  have late : timedOut s.readClock.t0 s.readClock.clock = true := timedOut_eq_true.2 ht
  simp only [exec_waitPoint hi hs, State.waitStep, late, if_true, p.done_timeout]

theorem exec_wait_time_within (hi : p.belongs i = true) (hs : s.seq = p.at_ .time)
    (ht : s.readClock.clock - s.t0 ≤ 800) : exec i s = .next (s.readClock.goto (p.at_ .poll)) := by
  have within : ¬timedOut s.readClock.t0 s.readClock.clock = true := fun h => absurd (timedOut_eq_true.1 h) ht.not_gt
  simp only [exec_waitPoint hi hs, State.waitStep, within, if_false, Bool.false_eq_true]

end

/-- Settles O29: the points of `Wait()`, at every place. -/
theorem waitDoesWhatItsPointsSay : Obligations.WaitDoesWhatItsPointsSay := by
  intro p i s hi hf
  refine ⟨?_, fun hs hp => ?_, fun hs hp => ?_, exec_wait_test_idle hi, exec_wait_test_busy hi,
    exec_wait_time_within hi, exec_wait_time_over hi⟩
  · rintro (hs | hs) hp
    · rw [exec_wait_start hi hs, wakeThen_of_asleep hp]
      rfl
    · rw [exec_wait_poll hi hs, wakeThen_of_asleep hp]
      rfl
  · rw [exec_wait_start hi hs, wakeThen_of_awake hp]
    rfl
  · rw [exec_wait_poll hi hs, wakeThen_of_awake hp]
    rfl

end Sys2Proof.Machine
end

section
/-! PROOFS. `Wait()` run to its end while an oracle answers (R148, R150, R231): the polls it makes, its two results,
and the runs of WAIT (R149) and SET_STATUS (R151). -/

namespace Sys2Proof.Machine

/-! ### Inside a `Wait()` -/

/-- `u` is `s` inside its `Wait()`, at the point `k`: since its first clock read it has read the clock `c` times more
and made `n` polls, and `tr` is what it has added to the trace. -/
def InWait (s : State) (k : Seq) (c n : Nat) (tr : List Event) (u : State) : Prop :=
  ∃ (st : Byte) (miso : List Byte) (chip : Chip), u = { s with
    seq := k, t0 := tickAt s 0, clock := tickAt s c, ticks := s.ticks.skip (c + 1), rx := s.rx.skip (2 * n),
    fill := s.fill.skip n, trace := s.trace ++ tr, st := st, miso := miso, chip := chip }

/-- The operation `i` is at the start of its `Wait()` at the place `p`, the chip awake and an oracle answering. -/
structure WaitStarts (p : WaitPlace) (i : Instr) (s : State) : Prop where
  belongs : p.belongs i = true
  running : Running i s
  atStart : s.seq = p.at_ .start
  awake   : s.poweredDown = false
  oracle  : s.answers = .oracle

theorem waitPrefix_succ (s : State) (n : Nat) :
    waitPrefix s (n + 1) = waitPrefix s n ++ [pollEvent s n, .now (tickAt s (n + 1))] := by
  simp [waitPrefix, List.range_succ]

section
variable {p : WaitPlace} {i : Instr} {s u v : State} {k : Seq} {c n : Nat} {tr : List Event}

theorem InWait.goto (h : InWait s k c n tr u) (k' : Seq) : InWait s k' c n tr (u.goto k') := by
  obtain ⟨st, miso, chip, rfl⟩ := h
  exact ⟨st, miso, chip, rfl⟩

theorem InWait.seq_eq (h : InWait s k c n tr u) : u.seq = k := by
  obtain ⟨st, miso, chip, rfl⟩ := h
  rfl

theorem InWait.poweredDown_eq (h : InWait s k c n tr u) : u.poweredDown = s.poweredDown := by
  obtain ⟨st, miso, chip, rfl⟩ := h
  rfl

theorem InWait.running (h : InWait s k c n tr u) (hs : Running i s) (hk : k ≠ .idle) : Running i u := by
  obtain ⟨st, miso, chip, rfl⟩ := h
  exact hs.congr hs.noFrame hk rfl rfl

/-- The next clock read answers the next tick (R228). -/
theorem InWait.readClock (h : InWait s k c n tr u) :
    InWait s k (c + 1) n (tr ++ [.now (tickAt s (c + 1))]) u.readClock := by
  obtain ⟨st, miso, chip, rfl⟩ := h
  refine ⟨st, miso, chip, ?_⟩
  simp only [State.readClock, Source.peek_skip, Source.skip_skip, List.append_assoc]
  rfl

/-- The time that the next clock read finds passed since the first. -/
theorem InWait.elapsed (h : InWait s k c n tr u) : u.readClock.clock - u.t0 = tickAt s (c + 1) - tickAt s 0 := by
  obtain ⟨st, miso, chip, rfl⟩ := h
  simp only [State.readClock, Source.peek_skip]
  rfl

/-- A status poll that an oracle answers (R141, R237): all but the chip is known. -/
theorem polled_oracle (ho : s.answers = .oracle) (k : Seq) :
    ∃ chip, s.polled k = { s with
      seq := k, frame := none, fill := s.fill.skip 1, rx := s.rx.skip 2, st := s.rx.peek Config.freeRx 1,
      miso := [s.rx.peek Config.freeRx 0, s.rx.peek Config.freeRx 1],
      trace := s.trace ++
        [.frame [0x05#8, s.nextFiller] [s.rx.peek Config.freeRx 0, s.rx.peek Config.freeRx 1]],
      chip := chip } := by
  have received (n : Nat) : (((s.tookFillers 1).post (.readStatusRegister s.nextFiller)).goto k).received
      (.readStatusRegister s.nextFiller) n = s.rx.ahead Config.freeRx n := State.received_oracle ho _ n
  refine ⟨(s.polled k).chip, ?_⟩
  simp only [State.polled, State.issued, State.sent, State.transmit, received]
  rfl

theorem wakeBytes_of_awake (hp : s.poweredDown = false) : wakeBytes s = 0 := by simp [wakeBytes, hp]

/-- The next poll receives what the oracle has for it. -/
theorem InWait.polled (h : InWait s k c n tr u) (hp : s.poweredDown = false) (hf : s.frame = none)
    (ho : s.answers = .oracle) (k' : Seq) :
    InWait s k' c (n + 1) (tr ++ [pollEvent s n]) (u.polled k') ∧ busyBit (u.polled k').st = pollBusy s n := by
  obtain ⟨st, miso, chip, hu⟩ := h
  have answers : u.answers = .oracle := hu ▸ ho
  obtain ⟨chip', e⟩ := polled_oracle answers k'
  subst hu
  rw [e]
  refine ⟨⟨s.rx.peek Config.freeRx (2 * n + 1), pollReceived s n, chip', ?_⟩, ?_⟩
  · simp only [State.nextFiller, Source.peek_skip, Source.skip_skip, pollEvent, pollReceived, wakeBytes_of_awake hp,
      List.append_assoc, hf, Nat.zero_add, Nat.add_zero]
    rfl
  · simp only [Source.peek_skip, pollBusy, wakeBytes_of_awake hp, Nat.zero_add]

/-- What an operation has done that answers out of its `Wait()` (R225), and what stays. -/
theorem InWait.answered (h : InWait s k c n tr u) (hf : s.frame = none) (r : Result) :
    Answered s (u.answer r) ⟨r, none, none⟩ ∧ (u.answer r).trace = s.trace ++ tr ∧
      (u.answer r).poweredDown = s.poweredDown ∧ (u.answer r).clock = tickAt s c ∧
      (u.answer r).flashSize = s.flashSize ∧ (u.answer r).inited = s.inited ∧ (u.answer r).req = s.req ∧
      (u.answer r).requests = s.requests ∧ (u.answer r).cur = s.cur ∧ (u.answer r).rem = s.rem ∧
      (u.answer r).chunk = s.chunk ∧ (u.answer r).idx = s.idx := by
  obtain ⟨st, miso, chip, rfl⟩ := h
  exact ⟨⟨rfl, hf, rfl, rfl⟩, rfl, rfl, rfl, rfl, rfl, rfl, rfl, rfl, rfl, rfl, rfl⟩

/-! ### The polls of a `Wait()` -/

/-- The first `n` polls find the chip busy, and the clock read after each stays within 800 ms of the first (R150). -/
def BusyWithin (s : State) (n : Nat) : Prop :=
  ∀ k, k < n → pollBusy s k = true ∧ tickAt s (k + 1) - tickAt s 0 ≤ 800

/-- `u` is `s` before the poll `n` of its `Wait()`. -/
def BeforePoll (p : WaitPlace) (s : State) (n : Nat) (u : State) : Prop :=
  InWait s (p.at_ .poll) n n (waitPrefix s n) u

/-- The first clock read comes to the first poll (R148). -/
theorem WaitStarts.reads (h : WaitStarts p i s) : ∃ u, steps 1 s = .next u ∧ BeforePoll p s 0 u := by
  have he := (exec_wait_start h.belongs h.atStart).trans (congrArg _ (wakeThen_of_awake h.awake _))
  exact ⟨_, steps_one (h.running.step.trans he), s.st, s.miso, s.chip, rfl⟩

/-- Inside its `Wait()` the operation's next point is the machine's next step. -/
theorem WaitStarts.step (h : WaitStarts p i s) {w : WaitPoint} (hu : InWait s (p.at_ w) c n tr u)
    (he : exec i u = .next v) : steps 1 u = .next v :=
  steps_one ((hu.running h.running (p.at_ne_idle w)).step.trans he)

/-- A poll in the middle of a `Wait()`: the frame, then the test of the byte it received. -/
theorem WaitStarts.polls (h : WaitStarts p i s) (hu : BeforePoll p s n u) :
    ∃ v, steps 2 u = .next v ∧ InWait s (p.at_ .test) n (n + 1) (waitPrefix s n ++ [pollEvent s n]) v ∧
      busyBit v.st = pollBusy s n := by
  have awake : u.poweredDown = false := hu.poweredDown_eq.trans h.awake
  have he := (exec_wait_poll h.belongs hu.seq_eq).trans (congrArg _ (wakeThen_of_awake awake _))
  exact ⟨_, (hu.running h.running (p.at_ne_idle _)).polls he,
    InWait.polled hu h.awake h.running.noFrame h.oracle (p.at_ .test)⟩

/-- A busy poll comes to the test of the time (R148). -/
theorem WaitStarts.pollsBusy (h : WaitStarts p i s) (hu : BeforePoll p s n u) (hb : pollBusy s n = true) :
    ∃ v, steps 3 u = .next v ∧ InWait s (p.at_ .time) n (n + 1) (waitPrefix s n ++ [pollEvent s n]) v := by
  obtain ⟨v, hsteps, hv, hst⟩ := h.polls hu
  have he := exec_wait_test_busy h.belongs hv.seq_eq (hst.trans hb)
  exact ⟨_, steps_trans hsteps (h.step hv he), hv.goto _⟩

/-- The trace after a busy poll and the clock read that follows it (R150). -/
theorem InWait.readClock_waitPrefix (h : InWait s k n (n + 1) (waitPrefix s n ++ [pollEvent s n]) u) :
    InWait s k (n + 1) (n + 1) (waitPrefix s (n + 1)) u.readClock := by
  have hread := h.readClock
  rwa [List.append_assoc, List.singleton_append, ← waitPrefix_succ] at hread

/-- A busy poll within the time comes to the next poll at once (R148). -/
theorem WaitStarts.pollsOn (h : WaitStarts p i s) (hu : BeforePoll p s n u) (hb : pollBusy s n = true)
    (ht : tickAt s (n + 1) - tickAt s 0 ≤ 800) : ∃ v, steps 4 u = .next v ∧ BeforePoll p s (n + 1) v := by
  obtain ⟨v, hsteps, hv⟩ := h.pollsBusy hu hb
  have he := exec_wait_time_within h.belongs hv.seq_eq (hv.elapsed.trans_le ht)
  exact ⟨_, steps_trans hsteps (h.step hv he),
    hv.readClock_waitPrefix.goto _⟩

/-- While the chip is busy and the time has not passed, `Wait()` polls on (R150, R231). -/
theorem WaitStarts.reachesPoll (h : WaitStarts p i s) (hb : BusyWithin s n) :
    ∃ u, steps (1 + 4 * n) s = .next u ∧ BeforePoll p s n u := by
  induction n with
  | zero => exact h.reads
  | succ n ih =>
    obtain ⟨u, hsteps, hu⟩ := ih fun k hk => hb k (Nat.lt_succ_of_lt hk)
    obtain ⟨busy, within⟩ := hb n n.lt_succ_self
    obtain ⟨v, hround, hv⟩ := h.pollsOn hu busy within
    have counted := steps_trans hsteps hround
    exact ⟨v, counted, hv⟩

/-- The first idle poll ends a `Wait()` with Success (R148, R150). -/
theorem WaitStarts.succeeds (h : WaitStarts p i s) (hb : BusyWithin s n) (hn : pollBusy s n = false) :
    ∃ m u, steps m s = .next (p.succeeded u) ∧
      InWait s (p.at_ .test) n (n + 1) (waitPrefix s n ++ [pollEvent s n]) u := by
  obtain ⟨u, hsteps, hu⟩ := h.reachesPoll hb
  obtain ⟨v, hpoll, hv, hst⟩ := h.polls hu
  have he := exec_wait_test_idle h.belongs hv.seq_eq (hst.trans hn)
  exact ⟨_, v, steps_trans hsteps (steps_trans hpoll
    (h.step hv he)), hv⟩

/-- The first clock read more than 800 ms after the first ends a `Wait()` with Timeout (R148, R150). -/
theorem WaitStarts.timesOut (h : WaitStarts p i s) (hb : BusyWithin s n) (hn : pollBusy s n = true)
    (ht : tickAt s (n + 1) - tickAt s 0 > 800) :
    ∃ m u, steps m s = .next (u.answer .timeout) ∧ InWait s (p.at_ .time) (n + 1) (n + 1) (waitPrefix s (n + 1)) u := by
  obtain ⟨u, hsteps, hu⟩ := h.reachesPoll hb
  obtain ⟨v, hpoll, hv⟩ := h.pollsBusy hu hn
  have he := exec_wait_time_over h.belongs hv.seq_eq (ht.trans_eq hv.elapsed.symm)
  exact ⟨_, v.readClock, steps_trans hsteps (steps_trans hpoll
    (h.step hv he)), hv.readClock_waitPrefix⟩

end

/-! ### WAIT -/

theorem tickAt_congr {s t : State} (hc : t.clock = s.clock) (ht : t.ticks = s.ticks) (k : Nat) :
    tickAt t k = tickAt s k := by
  induction k with
  | zero => simp only [tickAt, hc, ht]
  | succ k ih => simp only [tickAt, ih, ht]

/-- WAIT accepted and the chip awake, at the start of its `Wait()`. -/
def State.waitAwake (s : State) : State := (s.accept.goto (.wait .start)).woken

section
variable {s : State} (k n : Nat)

theorem tickAt_waitAwake : tickAt s.waitAwake k = tickAt s k := tickAt_congr (s := s) (t := s.waitAwake) rfl rfl k

theorem waitAwake_rx (s : State) : s.waitAwake.rx = s.rx.skip (wakeBytes s) := rfl

theorem wakeBytes_waitAwake (s : State) : wakeBytes s.waitAwake = 0 := rfl

/-- After the wake the polls receive what they would have received with it still to come. -/
theorem pollReceived_waitAwake : pollReceived s.waitAwake k = pollReceived s k := by
  simp only [pollReceived, waitAwake_rx, Source.peek_skip, wakeBytes_waitAwake, Nat.zero_add, Nat.add_assoc]

theorem pollBusy_waitAwake : pollBusy s.waitAwake k = pollBusy s k := by
  simp only [pollBusy, waitAwake_rx, Source.peek_skip, wakeBytes_waitAwake, Nat.zero_add, Nat.add_assoc]

theorem pollEvent_waitAwake : pollEvent s.waitAwake k = pollEvent s k :=
  congrArg (Event.frame [0x05#8, s.fill.peek Config.freeFill k]) (pollReceived_waitAwake (s := s) k)

theorem waitPrefix_waitAwake : waitPrefix s.waitAwake n = waitPrefix s n := by
  simp only [waitPrefix, tickAt_waitAwake, pollEvent_waitAwake]

theorem busyWithin_waitAwake : BusyWithin s.waitAwake n ↔ BusyWithin s n := by
  simp only [BusyWithin, pollBusy_waitAwake, tickAt_waitAwake]

end

/-- WAIT comes to the start of its `Wait()` with the chip awake. -/
theorem wait_reaches_start {s : State} (h : Ready .wait s) (ho : s.answers = .oracle) :
    exec .wait s = .next (s.accept.goto (.wait .start)) ∧
      steps (2 * wakeBytes s) (s.accept.goto (.wait .start)) = .next s.waitAwake ∧
      WaitStarts .wait .wait s.waitAwake := by
  have ⟨⟨hs, _⟩, hi, _⟩ := h
  have starts := h.running (k := .wait .start) nofun
  exact ⟨(acceptedOperationsStart s 0 hs hi).1, starts.wakes (exec_wait_start (p := .wait) rfl rfl),
    rfl, starts.woken, rfl, rfl, ho⟩

/-- Settles O30: WAIT's wake, then its `Wait()`, which the first idle poll ends. -/
theorem waitSucceedsOnTheFirstIdlePoll : Obligations.WaitSucceedsOnTheFirstIdlePoll := by
  intro s p h ho hb hp
  obtain ⟨he, hwake, hstart⟩ := wait_reaches_start h ho
  obtain ⟨m, u, hsteps, hu⟩ :=
    hstart.succeeds ((busyWithin_waitAwake p).2 hb) ((pollBusy_waitAwake p).trans hp)
  rw [waitPrefix_waitAwake, pollEvent_waitAwake] at hu
  obtain ⟨hans, htrace, hpower, hclock, hkept⟩ := hu.answered hstart.running.noFrame .success
  exact ⟨_, _, ⟨_, he, _, steps_trans hwake hsteps⟩, hans, wakeEvents_wakeTrace s,
    htrace.trans (List.append_assoc _ _ _).symm, hpower, hclock.trans (tickAt_waitAwake p), hkept⟩

/-- Settles O31: WAIT's wake, then its `Wait()`, which the first late clock read ends. -/
theorem waitTimesOutAfterEightHundred : Obligations.WaitTimesOutAfterEightHundred := by
  intro s p h ho hb hp ht
  obtain ⟨he, hwake, hstart⟩ := wait_reaches_start h ho
  obtain ⟨m, u, hsteps, hu⟩ := hstart.timesOut ((busyWithin_waitAwake p).2 hb) ((pollBusy_waitAwake p).trans hp)
    (by rwa [tickAt_waitAwake, tickAt_waitAwake])
  rw [waitPrefix_waitAwake] at hu
  obtain ⟨hans, htrace, hpower, hclock, hkept⟩ := hu.answered hstart.running.noFrame .timeout
  exact ⟨_, _, ⟨_, he, _, steps_trans hwake hsteps⟩, hans, wakeEvents_wakeTrace s, htrace,
    hpower, hclock.trans (tickAt_waitAwake (p + 1)), hkept⟩

/-- Settles O32: the first poll that is idle or late ends WAIT, with Success or with Timeout. -/
theorem waitEndsUnderAFairClock : Obligations.WaitEndsUnderAFairClock := by
  intro s h ho hfair
  have hb : BusyWithin s (Nat.find hfair) := fun k hk => by
    simpa only [not_or, Bool.not_eq_false, not_lt] using Nat.find_min hfair hk
  cases hp : pollBusy s (Nat.find hfair) with
  | false =>
    obtain ⟨u, -, hu, hans, -⟩ := waitSucceedsOnTheFirstIdlePoll s _ h ho hb hp
    exact ⟨u, .success, hu, hans, .inl rfl⟩
  | true =>
    have ht := (Nat.find_spec hfair).resolve_left (by simp [hp])
    obtain ⟨u, -, hu, hans, -⟩ := waitTimesOutAfterEightHundred s _ h ho hb hp ht
    exact ⟨u, .timeout, hu, hans, .inr rfl⟩

/-- Settles O33: WAIT's wake, then the polls its `Wait()` makes. -/
theorem waitPollsOnWithoutBound : Obligations.WaitPollsOnWithoutBound := by
  intro s t n h ho hb ht
  have ⟨⟨_, hf, _⟩, _⟩ := h
  obtain ⟨he, hwake, hstart⟩ := wait_reaches_start h ho
  obtain rfl := Host.Outcome.next.inj (he.symm.trans ht)
  obtain ⟨_, hsteps, st, miso, chip, rfl⟩ := hstart.reachesPoll ((busyWithin_waitAwake n).2 hb)
  rw [Nat.add_assoc]
  exact ⟨_, _, steps_trans hwake hsteps, wakeEvents_wakeTrace s, rfl, hf,
    congrArg (s.waitAwake.trace ++ ·) (waitPrefix_waitAwake (s := s) n), rfl, rfl⟩

/-! ### SET_STATUS -/

/-- The bytes still to come when SET_STATUS waits: the wake, the latch and the value have taken theirs. -/
theorem pollBusy_statusWritten (s : State) (v : Byte) :
    pollBusy (s.statusWritten v) 0 = busyBit (s.rx.peek Config.freeRx (wakeBytes s + 4)) := by
  have rx : (s.statusWritten v).rx = ((s.rx.skip (wakeBytes s)).skip 1).skip 2 := rfl
  simp only [pollBusy, wakeBytes_of_awake (s := s.statusWritten v) rfl, rx, Source.peek_skip]

/-- Settles O35: SET_STATUS comes to its `Wait()`, whose first poll is idle. -/
theorem setStatusEndsWithItsWait : Obligations.SetStatusEndsWithItsWait := by
  intro s v h ho hp
  obtain ⟨t, n, he, hn, hrun⟩ := setStatus_reaches_wait h
  obtain ⟨m1, m2, hlen1, hlen2, hwritten⟩ := statusWritten_trace s v
  obtain ⟨hsize, hreq, hcur, hrem, hchunk, hidx, -, hreqs, hanswers, hticks, hclocks⟩ := sameWork_statusWritten s v
  have hstart : WaitStarts .setStatus (.setStatus v) (s.statusWritten v) := ⟨rfl, hrun, rfl, rfl, hanswers.trans ho⟩
  obtain ⟨m, u, hsteps, hu⟩ := hstart.succeeds (n := 0) nofun ((pollBusy_statusWritten s v).trans hp)
  obtain ⟨hans, htrace, hpower, hclock, hkept⟩ := hu.answered hrun.noFrame .success
  obtain ⟨hinited, -, hresponses⟩ := statusWritten_kept s v
  simp only [Answered, hresponses] at hans
  simp only [hsize, hinited, hreq, hreqs, hcur, hrem, hchunk, hidx] at hkept
  have hevents : waitPrefix (s.statusWritten v) 0 = [.now (tickAt s 0)] :=
    congrArg (fun k => [Event.now k]) (tickAt_congr hclocks hticks 0)
  rw [hwritten, hevents, List.append_assoc] at htrace
  exact ⟨_, _, m1, m2, pollReceived (s.statusWritten v) 0, (s.statusWritten v).nextFiller,
    ⟨t, he, _, steps_trans hn hsteps⟩, wakeEvents_wakeTrace s, hlen1, hlen2, rfl,
    htrace, hans, hpower, hclock.trans (tickAt_congr hclocks hticks 0), hkept⟩

end Sys2Proof.Machine
end

section
/-! PROOFS. The input checks of ERASE, WRITE and READ (R162, R163, R182, R197), decided in the step that accepts or
answers the request. -/

namespace Sys2Proof.Machine

/-! ### The checks -/

section
variable {size : Nat} {d : Option (List Byte)} {o n : Operand}

theorem exceedsFlash_eq_true : exceedsFlash size o n = true ↔ o.toNat + n.toNat > size := decide_eq_true_iff

theorem eraseRejects_eq_true :
    eraseRejects size o n = true ↔ o.toNat + n.toNat > size ∨ o.toNat % 4096 ≠ 0 ∨ n.toNat % 4096 ≠ 0 := by
  change _ ↔ _ ∨ o.toNat % sectorSize ≠ 0 ∨ n.toNat % sectorSize ≠ 0
  simp [eraseRejects, exceedsFlash_eq_true, misaligned]

theorem writeRejects_eq_true : writeRejects size d o n = true ↔ d = none ∨ o.toNat + n.toNat > size := by
  simp [writeRejects, exceedsFlash_eq_true]

theorem writeRejects_eq_false : writeRejects size d o n = false ↔ d ≠ none ∧ o.toNat + n.toNat ≤ size := by
  simp [writeRejects, exceedsFlash_eq_false, ← Option.isSome_iff_ne_none]

end

/-! ### Accepting or rejecting a request -/

section
variable {s : State} {d : Option (List Byte)} {o n : Operand} {c : Bool} {k : Seq}

/-- The next state of a request whose operands are checked: rejected, or standing at its first point (R226). -/
def State.acceptUnless (s : State) (c : Bool) (k : Seq) : State :=
  if c then s.accept.answer .inputValue else s.accept.goto k

theorem execErase_idle (hs : s.seq = .idle) (hi : s.inited = true) :
    exec (.erase o n) s = .next (s.acceptUnless (eraseRejects s.flashSize o n) (.erase .wake)) := by
  simp only [exec, execErase, hs]
  exact begin_of_inited hi _

theorem execWrite_idle (hs : s.seq = .idle) (hi : s.inited = true) :
    exec (.write d o n) s = .next (s.acceptUnless (writeRejects s.flashSize d o n) (.write .wake)) := by
  simp only [exec, execWrite, hs]
  exact begin_of_inited hi _

theorem execRead_idle (hs : s.seq = .idle) (hi : s.inited = true) :
    exec (.read o n) s = .next (s.acceptUnless (exceedsFlash s.flashSize o n) (.read .wake)) := by
  simp only [exec, execRead, hs]
  exact begin_of_inited hi _

/-- A rejected request is answered InputValue, and nothing else of an IDLE machine changes (R222). -/
theorem acceptUnless_of_rejected (hs : s.seq = .idle) (hc : c = true) : s.acceptUnless c k = { s with
    resp := some ⟨.inputValue, none, none⟩, responses := s.responses ++ [⟨.inputValue, none, none⟩] } := by
  simp only [State.acceptUnless, hc, if_true, State.accept, State.answer, State.respond, hs]

theorem acceptUnless_of_accepted (hc : c = false) : s.acceptUnless c k = s.accept.goto k := by
  simp only [State.acceptUnless, hc, Bool.false_eq_true, if_false]

end

/-- Settles O36: each operation's check decides between the answer and the first point. -/
theorem inputChecksDecideBeforeAnyTraffic : Obligations.InputChecksDecideBeforeAnyTraffic := by
  intro s d o n hs hi
  rw [execErase_idle hs hi, execWrite_idle hs hi, execRead_idle hs hi]
  refine ⟨fun h => ?_, fun hsum ho hn => ?_, fun h => ?_, fun hd hsum => ?_, fun h => ?_, fun hsum => ?_⟩
  · rw [acceptUnless_of_rejected hs (eraseRejects_eq_true.2 h)]
  · rw [acceptUnless_of_accepted (eraseRejects_eq_false.2 ⟨hsum, ho, hn⟩)]
    rfl
  · rw [acceptUnless_of_rejected hs (writeRejects_eq_true.2 h)]
  · rw [acceptUnless_of_accepted (writeRejects_eq_false.2 ⟨hd, hsum⟩)]
    rfl
  · rw [acceptUnless_of_rejected hs (exceedsFlash_eq_true.2 h)]
  · rw [acceptUnless_of_accepted (exceedsFlash_eq_false.2 hsum)]
    rfl

end Sys2Proof.Machine
end

section
/-! PROOFS. ERASE point by point (R164 to R167), and the frames of its units (R168). -/

namespace Sys2Proof.Machine

/-! ### The points -/

section
variable {s : State} {o n : Operand}

theorem execErase_wake (hs : s.seq = .erase .wake) : exec (.erase o n) s =
    .next (s.wakeThen fun s => { s with cur := o.toNat, rem := n.toNat }.goto (.erase .blocks)) := by
  simp only [exec, execErase, hs]

theorem execErase_blocks (hs : s.seq = .erase .blocks) :
    exec (.erase o n) s = .next (s.goto (.erase (if blockFits s.cur s.rem then .wen .block else .sectors))) := by
  simp only [exec, execErase, hs]

theorem execErase_sectors (hs : s.seq = .erase .sectors) : exec (.erase o n) s =
    .next (if s.rem > 0 then s.goto (.erase (.wen .sector)) else s.answer .success) := by
  simp only [exec, execErase, hs]

theorem execErase_cmd {u : EraseSize} (hs : s.seq = .erase (.cmd u)) :
    exec (.erase o n) s = .next ((s.post (u.command s.cur)).goto (.erase (.waiting u .start))) := by
  simp only [exec, execErase, hs]

theorem execErase_wen_aligned {u : EraseSize} (hs : s.seq = .erase (.wen u)) (hu : s.cur % u.bytes = 0) :
    exec (.erase o n) s = .next ((s.post .writeEnable).goto (.erase (.cmd u))) := by
  simp only [exec, execErase, hs, hu, ne_eq, not_true, if_false]

theorem execErase_wen_misaligned {u : EraseSize} (hs : s.seq = .erase (.wen u)) (hu : s.cur % u.bytes ≠ 0) :
    exec (.erase o n) s = .next (s.answer .inputValue) := by
  simp only [exec, execErase, hs, hu, ne_eq, not_false_eq_true, if_true]

end

theorem blockFits_eq_true {cur rem : Nat} : blockFits cur rem = true ↔ cur % 32768 = 0 ∧ 32768 ≤ rem := by
  change _ ↔ cur % blockSize = 0 ∧ blockSize ≤ rem
  simp [blockFits]

/-- Settles O37: the points of ERASE, with the tests of its two loops. -/
theorem eraseDoesWhatItsPointsSay : Obligations.EraseDoesWhatItsPointsSay := by
  intro s o n _
  refine ⟨fun hs hp => ?_, fun hs hcur hrem => ?_, fun hs hfits => ?_, fun hs hrem => ?_, fun hs hrem => ?_,
    fun u => execErase_wen_aligned, fun u => execErase_wen_misaligned, execErase_cmd, execErase_cmd⟩
  · rw [execErase_wake hs, wakeThen_of_awake hp]
    rfl
  · rw [execErase_blocks hs, if_pos (blockFits_eq_true.2 ⟨hcur, hrem⟩)]
    rfl
  · rw [execErase_blocks hs, if_neg (mt blockFits_eq_true.1 hfits)]
    rfl
  · rw [execErase_sectors hs, if_pos hrem]
    rfl
  · rw [execErase_sectors hs, if_neg hrem.not_gt]
    rfl

/-! ### The frames of the units -/

/-- The opcode of a unit's erase command (R160, R161). -/
def EraseSize.opcode : EraseSize → Byte
  | .block => 0x52#8
  | .sector => 0x20#8

/-- The erase frame of the unit at `a` (R164). -/
def EraseSize.frame (u : EraseSize) (a : Nat) : List Byte := u.opcode :: addr3 (wireAddr a)

theorem encodeFrame_command (u : EraseSize) (a : Nat) : encodeFrame (u.command a) = some (u.frame a) := by
  cases u <;> rfl

/-- The erase frames of `k` adjacent units from `a` on. -/
def EraseSize.frames (u : EraseSize) (a k : Nat) : List (List Byte) :=
  (List.range k).map fun i => u.frame (a + u.bytes * i)

theorem EraseSize.frames_length (u : EraseSize) (a k : Nat) : (u.frames a k).length = k := by
  simp [EraseSize.frames]

theorem EraseSize.frames_succ (u : EraseSize) (a k : Nat) :
    u.frames a (k + 1) = u.frame a :: u.frames (a + u.bytes) k := by
  simp [EraseSize.frames, List.range_succ_eq_map, Nat.mul_succ, Nat.add_assoc, Nat.add_comm u.bytes]

/-- How many blocks and how many sectors R168 erases. -/
def blockCount (offset length : Nat) : Nat := if offset % 32768 = 0 then length / 32768 else 0
@[inherit_doc blockCount] def sectorCount (offset length : Nat) : Nat :=
  if offset % 32768 = 0 then length % 32768 / 4096 else length / 4096

/-- The layout of R168: adjacent blocks, then adjacent sectors. -/
theorem eraseLayout_eq (o n : Nat) : eraseLayout o n =
    EraseSize.block.frames o (blockCount o n) ++
      EraseSize.sector.frames (o + 32768 * blockCount o n) (sectorCount o n) := rfl

/-- Every frame of a run of units has the opcode of the unit. -/
theorem EraseSize.filter_frames_same (u : EraseSize) (a k : Nat) :
    ((u.frames a k).filter fun f => decide (f.head? = some u.opcode)).length = k := by
  rw [List.filter_eq_self.2, u.frames_length]
  simp [EraseSize.frames, EraseSize.frame]

theorem EraseSize.filter_frames_other {u v : EraseSize} (h : u.opcode ≠ v.opcode) (a k : Nat) :
    ((u.frames a k).filter fun f => decide (f.head? = some v.opcode)).length = 0 := by
  rw [List.filter_eq_nil_iff.2, List.length_nil]
  simp [EraseSize.frames, EraseSize.frame, h]

theorem eraseLayout_blocks (o n : Nat) : ((eraseLayout o n).filter fun f =>
    decide (f.head? = some EraseSize.block.opcode)).length = blockCount o n := by
  rw [eraseLayout_eq, List.filter_append, List.length_append, EraseSize.filter_frames_same,
    EraseSize.filter_frames_other (by decide), Nat.add_zero]

theorem eraseLayout_sectors (o n : Nat) : ((eraseLayout o n).filter fun f =>
    decide (f.head? = some EraseSize.sector.opcode)).length = sectorCount o n := by
  rw [eraseLayout_eq, List.filter_append, List.length_append, EraseSize.filter_frames_same,
    EraseSize.filter_frames_other (by decide), Nat.zero_add]

/-- Settles O40: the blocks are those that fit, and the sectors are the rest. -/
theorem eraseUnitsSumToTheLength : Obligations.EraseUnitsSumToTheLength := by
  intro o n _ hn
  have counts : 32768 * blockCount o n + 4096 * sectorCount o n = n := by
    unfold blockCount sectorCount
    split <;> omega
  exact (congrArg₂ (32768 * · + 4096 * ·) (eraseLayout_blocks o n) (eraseLayout_sectors o n)).trans counts

end Sys2Proof.Machine
end

section
/-! PROOFS. Where a run of one operation ends (R225, R269): an operation that becomes IDLE has delivered its response,
so that two runs of the machine up to one response lead to the same state. -/

namespace Sys2Proof.Machine

/-! ### Becoming IDLE delivers a response -/

/-- From `s` to `t` the sequencer delivers a response, or is not IDLE after. -/
def AnswersOrRuns (s t : State) : Prop := t.seq ≠ .idle ∨ s.responses.length < t.responses.length

/-- The next state of the outcome, if there is one, is not IDLE or has a response more. -/
def OutAnswersOrRuns (s : State) (o : Out) : Prop := ∀ t, o = .next t → AnswersOrRuns s t

section
variable {s t : State}

theorem AnswersOrRuns.runs (h : t.seq ≠ .idle) : AnswersOrRuns s t := .inl h

theorem AnswersOrRuns.answers {r : Response} (h : t.responses = s.responses ++ [r]) : AnswersOrRuns s t :=
  .inr (by simp [h])

theorem AnswersOrRuns.ite {c : Prop} [Decidable c] {u : State} (ht : AnswersOrRuns s t) (hu : AnswersOrRuns s u) :
    AnswersOrRuns s (if c then t else u) := by
  split
  · exact ht
  · exact hu

theorem outAnswersOrRuns_next (h : AnswersOrRuns s t) : OutAnswersOrRuns s (.next t) := by
  rintro _ ⟨⟩
  exact h

theorem outAnswersOrRuns_refused (r : Refusal) : OutAnswersOrRuns s (.refused r) := by
  rintro _ ⟨⟩

theorem outAnswersOrRuns_begin {go : State → State} (h : AnswersOrRuns s (go s.accept)) :
    OutAnswersOrRuns s (s.begin go) := by
  intro t ht
  obtain ⟨-, rfl⟩ := begin_next.1 ht
  exact h

/-- `Wake()` stays at its point, which is not IDLE, or goes on. -/
theorem wakeThen_answersOrRuns {go : State → State} (hs : s.seq ≠ .idle) (h : AnswersOrRuns s (go s)) :
    OutAnswersOrRuns s (.next (s.wakeThen go)) := by
  refine outAnswersOrRuns_next ?_
  obtain ⟨-, e⟩ | ⟨-, e⟩ := wakeThen_cases s go <;> rw [e]
  · exact .runs hs
  · exact h

/-- A `Wait()` goes on, or ends where its result goes. -/
theorem waitStep_answersOrRuns {at_ : WaitPoint → Seq} {done : Result → State → State} (w : WaitPoint)
    (hs : s.seq ≠ .idle) (hat : ∀ w, at_ w ≠ .idle) (hdone : ∀ r v, AnswersOrRuns v (done r v)) :
    OutAnswersOrRuns s (.next (s.waitStep at_ done w)) := by
  cases w with
  | start => exact wakeThen_answersOrRuns (go := fun s => s.markStart.goto (at_ .poll)) hs (.runs (hat _))
  | poll => exact wakeThen_answersOrRuns (go := fun s => s.postPoll.goto (at_ .test)) hs (.runs (hat _))
  | test => exact outAnswersOrRuns_next (.ite (.runs (hat _)) (hdone .success s))
  | time => exact outAnswersOrRuns_next (.ite (hdone .timeout s.readClock) (.runs (hat _)))

end

theorem answer_answersOrRuns (r : Result) (s : State) : AnswersOrRuns s (s.answer r) := .answers rfl

theorem eraseUnitDone_answersOrRuns (u : EraseSize) (r : Result) (s : State) :
    AnswersOrRuns s (eraseUnitDone u r s) := by
  cases r with
  | success => exact .runs nofun
  | _ => exact answer_answersOrRuns _ s

theorem writeChunkReady_answersOrRuns (r : Result) (s : State) : AnswersOrRuns s (writeChunkReady r s) := by
  cases r with
  | success => exact .runs nofun
  | _ => exact answer_answersOrRuns _ s

/-! The operations, point by point. -/

theorem execInit_answersOrRuns (s : State) : OutAnswersOrRuns s (execInit s) := by
  unfold execInit
  split
  · exact outAnswersOrRuns_next (.runs nofun)
  · exact outAnswersOrRuns_next (.runs nofun)
  · exact outAnswersOrRuns_next (.runs nofun)
  · exact outAnswersOrRuns_next (.answers rfl)
  · exact outAnswersOrRuns_refused _

theorem execSleep_answersOrRuns (s : State) : OutAnswersOrRuns s (execSleep s) := by
  unfold execSleep
  split
  · exact outAnswersOrRuns_begin (.ite (.answers rfl) (.runs nofun))
  · exact outAnswersOrRuns_next (.runs nofun)
  · exact outAnswersOrRuns_next (.answers rfl)
  · exact outAnswersOrRuns_refused _

theorem execWait_answersOrRuns (s : State) : OutAnswersOrRuns s (execWait s) := by
  unfold execWait
  split
  · exact outAnswersOrRuns_begin (.runs nofun)
  next hs => exact waitStep_answersOrRuns _ (hs ▸ nofun) nofun answer_answersOrRuns
  · exact outAnswersOrRuns_refused _

theorem execGetStatus_answersOrRuns (s : State) : OutAnswersOrRuns s (execGetStatus s) := by
  unfold execGetStatus
  split
  · exact outAnswersOrRuns_begin (.runs nofun)
  next hs => exact wakeThen_answersOrRuns (hs ▸ nofun) (.runs nofun)
  · exact outAnswersOrRuns_next (.answers rfl)
  · exact outAnswersOrRuns_refused _

theorem execSetStatus_answersOrRuns (v : Byte) (s : State) : OutAnswersOrRuns s (execSetStatus v s) := by
  unfold execSetStatus
  split
  · exact outAnswersOrRuns_begin (.runs nofun)
  next hs => exact wakeThen_answersOrRuns (hs ▸ nofun) (.runs nofun)
  · exact outAnswersOrRuns_next (.runs nofun)
  · exact outAnswersOrRuns_next (.runs nofun)
  next hs => exact waitStep_answersOrRuns _ (hs ▸ nofun) nofun answer_answersOrRuns
  · exact outAnswersOrRuns_refused _

theorem execErase_answersOrRuns (offset length : Operand) (s : State) :
    OutAnswersOrRuns s (execErase offset length s) := by
  unfold execErase
  split
  · exact outAnswersOrRuns_begin (.ite (.answers rfl) (.runs nofun))
  next hs => exact wakeThen_answersOrRuns (hs ▸ nofun) (.runs nofun)
  · exact outAnswersOrRuns_next (.runs nofun)
  · exact outAnswersOrRuns_next (.ite (.runs nofun) (.answers rfl))
  · exact outAnswersOrRuns_next (.ite (.answers rfl) (.runs nofun))
  · exact outAnswersOrRuns_next (.runs nofun)
  next hs => exact waitStep_answersOrRuns _ (hs ▸ nofun) nofun (eraseUnitDone_answersOrRuns _)
  · exact outAnswersOrRuns_refused _

theorem execWrite_answersOrRuns (data : Option (List Byte)) (offset length : Operand) (s : State) :
    OutAnswersOrRuns s (execWrite data offset length s) := by
  unfold execWrite
  split
  · exact outAnswersOrRuns_begin (.ite (.answers rfl) (.runs nofun))
  next hs => exact wakeThen_answersOrRuns (hs ▸ nofun) (.runs nofun)
  · exact outAnswersOrRuns_next (.ite (.runs nofun) (.runs nofun))
  next hs => exact waitStep_answersOrRuns _ (hs ▸ nofun) nofun writeChunkReady_answersOrRuns
  · exact outAnswersOrRuns_next (.runs nofun)
  · exact outAnswersOrRuns_next (.runs nofun)
  · exact outAnswersOrRuns_next (.runs nofun)
  next hs => exact waitStep_answersOrRuns _ (hs ▸ nofun) nofun answer_answersOrRuns
  · exact outAnswersOrRuns_refused _

theorem execRead_answersOrRuns (offset length : Operand) (s : State) :
    OutAnswersOrRuns s (execRead offset length s) := by
  unfold execRead
  split
  · exact outAnswersOrRuns_begin (.ite (.answers rfl) (.runs nofun))
  next hs => exact wakeThen_answersOrRuns (hs ▸ nofun) (.runs nofun)
  · exact outAnswersOrRuns_next (.runs nofun)
  · exact outAnswersOrRuns_next (.answers rfl)
  · exact outAnswersOrRuns_refused _

theorem execGetJedecId_answersOrRuns (s : State) : OutAnswersOrRuns s (execGetJedecId s) := by
  unfold execGetJedecId
  split
  · exact outAnswersOrRuns_begin (.runs nofun)
  next hs => exact wakeThen_answersOrRuns (hs ▸ nofun) (.runs nofun)
  · exact outAnswersOrRuns_next (.runs nofun)
  · exact outAnswersOrRuns_next (.answers rfl)
  · exact outAnswersOrRuns_refused _

theorem execGetUniqueId_answersOrRuns (s : State) : OutAnswersOrRuns s (execGetUniqueId s) := by
  unfold execGetUniqueId
  split
  · exact outAnswersOrRuns_begin (.runs nofun)
  next hs => exact wakeThen_answersOrRuns (hs ▸ nofun) (.runs nofun)
  · exact outAnswersOrRuns_next (.runs nofun)
  · exact outAnswersOrRuns_next (.answers rfl)
  · exact outAnswersOrRuns_refused _

/-- Every point of an operation that makes the sequencer IDLE delivers a response (R225). -/
theorem operation_answersOrRuns {i : Instr} {s : State} (hi : i.isOperation = true) :
    OutAnswersOrRuns s (exec i s) := by
  cases i with
  | init => exact execInit_answersOrRuns s
  | sleep => exact execSleep_answersOrRuns s
  | wait => exact execWait_answersOrRuns s
  | getStatus => exact execGetStatus_answersOrRuns s
  | setStatus v => exact execSetStatus_answersOrRuns v s
  | erase o n => exact execErase_answersOrRuns o n s
  | write d o n => exact execWrite_answersOrRuns d o n s
  | read o n => exact execRead_answersOrRuns o n s
  | getJedecId => exact execGetJedecId_answersOrRuns s
  | getUniqueId => exact execGetUniqueId_answersOrRuns s
  | _ => cases hi

/-! ### Runs -/

section
variable {s t u v : State} {m n : Nat}

/-- A step delivers responses, and takes none back (R269). -/
theorem step_responses_le (h : step s = .next t) : s.responses.length ≤ t.responses.length := by
  obtain ⟨-, hr | ⟨r, hr⟩⟩ | ⟨-, -, -, r, hr⟩ := step_movesOn h <;> simp [hr]

theorem steps_responses_le (h : steps n s = .next t) : s.responses.length ≤ t.responses.length := by
  induction n generalizing s with
  | zero => exact (congrArg (·.responses.length) (Host.Outcome.next.inj h)).le
  | succ n ih =>
    cases hs : step s with
    | next v => exact (step_responses_le hs).trans (ih ((steps_succ_of_step hs n).symm.trans h))
    | fault r => simp [steps, hs] at h
    | refused r => simp [steps, hs] at h

/-- A step of a machine with no frame to send while IDLE leaves the state as it is, makes or keeps the sequencer
running, or delivers a response. -/
theorem step_rests_runs_or_answers (hf : s.frame = none ∨ s.seq ≠ .idle) (h : step s = .next t) :
    t = s ∨ AnswersOrRuns s t := by
  obtain ⟨b, i, hb, hd, he⟩ | ⟨-, -, -, rfl⟩ | ⟨r, rest, i, -, -, -, hd, he⟩ | ⟨r, i, -, -, -, hd, he⟩ := step_next h
  · obtain ⟨-, rfl⟩ := (wire_next (decodeFrame_isOperation hd)).1 he
    exact .inr (.inl (hf.resolve_left (hb ▸ nofun)))
  · exact .inl rfl
  · exact .inr (operation_answersOrRuns (s := { s with requests := rest, req := some r })
      (decodeRequest_isOperation hd) t he)
  · exact .inr (operation_answersOrRuns (decodeRequest_isOperation hd) t he)

/-- A running machine is not IDLE again before it has delivered a response. -/
theorem steps_answer_before_idle (hs : s.seq ≠ .idle) (h : steps n s = .next u) (hu : u.seq = .idle) :
    s.responses.length < u.responses.length := by
  induction n generalizing s with
  | zero => exact absurd (Host.Outcome.next.inj h ▸ hu) hs
  | succ n ih =>
    cases hstep : step s with
    | fault r => simp [steps, hstep] at h
    | refused r => simp [steps, hstep] at h
    | next v =>
      rw [steps_succ_of_step hstep] at h
      obtain rfl | hv | hv := step_rests_runs_or_answers (.inr hs) hstep
      · exact ih hs h
      · exact (step_responses_le hstep).trans_lt (ih hv h)
      · exact hv.trans_le (steps_responses_le h)

/-- An IDLE machine that is IDLE again with no response more has not moved. -/
theorem eq_of_steps_idle (hf : s.frame = none) (h : steps n s = .next u) (hu : u.seq = .idle)
    (hr : u.responses.length ≤ s.responses.length) : u = s := by
  induction n generalizing s with
  | zero => exact (Host.Outcome.next.inj h).symm
  | succ n ih =>
    cases hstep : step s with
    | fault r => simp [steps, hstep] at h
    | refused r => simp [steps, hstep] at h
    | next v =>
      rw [steps_succ_of_step hstep] at h
      obtain rfl | hv | hv := step_rests_runs_or_answers (.inl hf) hstep
      · exact ih hf h hr
      · have := steps_answer_before_idle hv h hu
        have := step_responses_le hstep
        omega
      · have := steps_responses_le h
        omega

/-- A run to a response goes through every state that the run reaches before it. -/
theorem steps_through (hv : steps m s = .next v) (hu : steps n s = .next u)
    (hlt : v.responses.length < u.responses.length) : ∃ k, n = m + k ∧ steps k v = .next u := by
  obtain ⟨k, rfl⟩ | ⟨k, rfl⟩ := (le_total m n).imp Nat.exists_eq_add_of_le Nat.exists_eq_add_of_le
  · exact ⟨k, rfl, (steps_add hv k).symm.trans hu⟩
  · exact absurd (steps_responses_le ((steps_add hu k).symm.trans hv)) hlt.not_ge

/-- Two runs from one state that both end with its next response end in the same state. -/
theorem eq_of_answered {r r' : Response} (hv : steps m s = .next v) (hu : steps n s = .next u)
    (hav : Answered s v r) (hau : Answered s u r') : u = v := by
  obtain ⟨hvs, hvf, -, hvr⟩ := hav
  obtain ⟨hus, huf, -, hur⟩ := hau
  obtain ⟨k, rfl⟩ | ⟨k, rfl⟩ := (le_total m n).imp Nat.exists_eq_add_of_le Nat.exists_eq_add_of_le
  · exact eq_of_steps_idle hvf ((steps_add hv k).symm.trans hu) hus (by simp [hvr, hur])
  · exact (eq_of_steps_idle huf ((steps_add hu k).symm.trans hv) hvs (by simp [hvr, hur])).symm

theorem Answered.congr {r : Response} (h : Answered s u r) (ht : t.responses = s.responses) : Answered t u r := by
  obtain ⟨hseq, hframe, hresp, hresps⟩ := h
  exact ⟨hseq, hframe, hresp, ht ▸ hresps⟩

theorem Answered.responses_lt {r : Response} (h : Answered s u r) (ht : t.responses = s.responses) :
    t.responses.length < u.responses.length := by
  obtain ⟨-, -, -, hresp⟩ := h.congr ht
  simp [hresp]

/-- A round from `v` leads to where the next round begins, with no response delivered, or to the response. -/
def RoundLeads (P Q : State → Prop) (v : State) : Prop :=
  (∃ m w, 0 < m ∧ steps m v = .next w ∧ w.responses = v.responses ∧ P w) ∨
    ∃ m w r, steps m v = .next w ∧ Answered v w r ∧ Q w

/-- An operation that goes on in rounds, each from where `P` holds, ends where `Q` holds, if it ends. -/
theorem ends_of_rounds {P Q : State → Prop} (round : ∀ v, P v → RoundLeads P Q v)
    (hs : P s) {r : Response} (hu : steps n s = .next u) (ha : Answered s u r) : Q u := by
  induction n using Nat.strong_induction_on generalizing s with
  | _ n ih =>
    obtain ⟨m, w, hm, hw, hr, hP⟩ | ⟨m, w, r', hw, hans, hQ⟩ := round s hs
    · obtain ⟨k, rfl, hk⟩ := steps_through hw hu (ha.responses_lt hr)
      exact ih k (Nat.lt_add_of_pos_left hm) hP hk (ha.congr hr)
    · exact eq_of_answered hw hu hans ha ▸ hQ

end

end Sys2Proof.Machine
end

section
/-! PROOFS. A `Wait()` that goes on from poll to poll, whoever answers: all it adds to the trace are polls and clock
reads (R148, R150). -/

namespace Sys2Proof.Machine

/-! ### Counting in a longer trace -/

section
variable (tr tr' : List Event)

theorem commandsSent_append : commandsSent (tr ++ tr') = commandsSent tr ++ commandsSent tr' := by
  simp [commandsSent, framesSent]

theorem pollCount_append : pollCount (tr ++ tr') = pollCount tr + pollCount tr' := by
  simp [pollCount, framesSent]

theorem ticksRead_append : ticksRead (tr ++ tr') = ticksRead tr ++ ticksRead tr' := by
  simp [ticksRead]

end

/-- The release frame, if the mirror says that the chip needs one (R123). -/
def State.wakeCommands (s : State) : List (List Byte) := if s.poweredDown then [[0xAB#8]] else []

/-- `Wake()` sends its release frame and neither polls nor reads the clock (R123). -/
theorem wakeTrace_counts (s : State) :
    commandsSent s.wakeTrace = s.wakeCommands ∧ pollCount s.wakeTrace = 0 ∧ ticksRead s.wakeTrace = [] := by
  unfold State.wakeTrace State.wakeCommands
  cases s.poweredDown <;> exact ⟨rfl, rfl, rfl⟩

/-! ### Polls and clock reads -/

theorem issued_transportReady (s : State) (j : Instr) (k : Seq) :
    (s.issued j k).transportReady = s.transportReady := rfl

theorem issued_poweredDown (s : State) (j : Instr) (k : Seq) :
    (s.issued j k).poweredDown = powerAfter j s.poweredDown := rfl

theorem sameWork_refl (s : State) : SameWork s s := ⟨rfl, rfl, rfl, rfl, rfl, rfl, rfl, rfl, rfl, rfl, rfl⟩

/-- Status polls and clock reads lead from `s` to `w`: they add no other frame, and touch no register that an operation
keeps across its `Wait()`. -/
structure Waited (s w : State) : Prop where
  noFrame   : w.frame = none
  power     : w.poweredDown = s.poweredDown
  bus       : w.transportReady = s.transportReady
  req       : w.req = s.req
  responses : w.responses = s.responses
  cur       : w.cur = s.cur
  rem       : w.rem = s.rem
  chunk     : w.chunk = s.chunk
  idx       : w.idx = s.idx
  trace     : ∃ tail, w.trace = s.trace ++ tail ∧ commandsSent tail = []

section
variable {p : WaitPlace} {i : Instr} {s w : State}

theorem waited_polled (s : State) (k : Seq) : Waited s (s.polled k) := by
  obtain ⟨b0, htrace⟩ := polled_trace s k
  obtain ⟨-, hreq, hcur, hrem, hchunk, hidx, -⟩ := (sameWork_refl s).polled k
  exact ⟨rfl, issued_poweredDown _ _ _, issued_transportReady _ _ _, hreq, issued_responses _ _ _, hcur, hrem, hchunk,
    hidx, _, htrace, rfl⟩

theorem Waited.goto (h : Waited s w) (k : Seq) : Waited s (w.goto k) :=
  ⟨h.noFrame, h.power, h.bus, h.req, h.responses, h.cur, h.rem, h.chunk, h.idx, h.trace⟩

theorem Waited.readClock (h : Waited s w) : Waited s w.readClock := by
  obtain ⟨tail, htrace, hsent⟩ := h.trace
  refine ⟨h.noFrame, h.power, h.bus, h.req, h.responses, h.cur, h.rem, h.chunk, h.idx,
    tail ++ [.now w.readClock.clock], ?_, ?_⟩
  · rw [← List.append_assoc, ← htrace]
    rfl
  · rw [commandsSent_append, hsent]
    rfl

theorem Waited.running (h : Waited s w) (hs : Running i s) {k : Seq} (hk : k ≠ .idle) : Running i (w.goto k) :=
  hs.congr h.noFrame hk h.bus h.req

/-- From a poll of a `Wait()` the operation comes to where Success leads, to its Timeout, or to the next poll (R148). -/
theorem Running.waits_on (h : Running i s) (hi : p.belongs i = true) (hs : s.seq = p.at_ .poll)
    (hp : s.poweredDown = false) : ∃ m w u, 0 < m ∧ steps m s = .next u ∧ Waited s w ∧
      (u = p.succeeded w ∨ u = w.answer .timeout ∨ u = w.goto (p.at_ .poll)) := by
  have polled : steps 2 s = .next (s.polled (p.at_ .test)) :=
    h.polls ((exec_wait_poll hi hs).trans (congrArg _ (wakeThen_of_awake hp _)))
  have waited := waited_polled s (p.at_ .test)
  have atTest : Running i (s.polled (p.at_ .test)) := h.polled (p.at_ne_idle _)
  cases hb : busyBit (s.polled (p.at_ .test)).st with
  | false =>
    have ends := steps_one (atTest.step.trans (exec_wait_test_idle hi rfl hb))
    exact ⟨_, _, _, by decide, steps_trans polled ends, waited, .inl rfl⟩
  | true =>
    have busy := steps_one (atTest.step.trans (exec_wait_test_busy hi rfl hb))
    have atTime := (waited.running h (p.at_ne_idle .time)).step
    obtain ht | ht := lt_or_ge 800
      (((s.polled (p.at_ .test)).goto (p.at_ .time)).readClock.clock - ((s.polled (p.at_ .test)).goto (p.at_ .time)).t0)
    · have late := steps_one (atTime.trans (exec_wait_time_over hi rfl ht))
      exact ⟨_, _, _, by decide, steps_trans polled (steps_trans busy late), (waited.goto _).readClock, .inr (.inl rfl)⟩
    · have again := steps_one (atTime.trans (exec_wait_time_within hi rfl ht))
      exact ⟨_, _, _, by decide, steps_trans polled (steps_trans busy again), (waited.goto _).readClock,
        .inr (.inr rfl)⟩

/-! ### A `Wait()` whose first poll is idle -/

/-- From `s` to `w` an oracle has answered `bytes` bytes, `polls` status polls were made and as many clock reads, no
response was delivered, and the chip is awake. -/
structure IdleRun (s w : State) (bytes polls : Nat) : Prop where
  answers   : w.answers = s.answers
  awake     : w.poweredDown = false
  responses : w.responses = s.responses
  rx        : w.rx = s.rx.skip bytes
  trace     : ∃ tail, w.trace = s.trace ++ tail ∧ pollCount tail = polls ∧ (ticksRead tail).length = polls

theorem IdleRun.trans {t : State} {a b p q : Nat} (h : IdleRun s t a p) (k : IdleRun t w b q) :
    IdleRun s w (a + b) (p + q) := by
  obtain ⟨tail, htrace, hpolls, hticks⟩ := h.trace
  obtain ⟨tail', htrace', hpolls', hticks'⟩ := k.trace
  refine ⟨k.answers.trans h.answers, k.awake, k.responses.trans h.responses, ?_, tail ++ tail', ?_, ?_, ?_⟩
  · rw [k.rx, h.rx, Source.skip_skip]
  · rw [htrace', htrace, List.append_assoc]
  · rw [pollCount_append, hpolls, hpolls']
  · rw [ticksRead_append, List.length_append, hticks, hticks']

/-- A `Wait()` whose first poll is idle ends with Success after one poll and one clock read (R148). -/
theorem WaitStarts.succeedsAtOnce (h : WaitStarts p i s) (hb : pollBusy s 0 = false) :
    ∃ m w, steps m s = .next (p.done .success w) ∧ Waited s w ∧ IdleRun s w 2 1 := by
  obtain ⟨m, w, hsteps, st, miso, chip, rfl⟩ := h.succeeds (n := 0) nofun hb
  rw [← WaitPlace.done_success] at hsteps
  exact ⟨m, _, hsteps, ⟨h.running.noFrame, rfl, rfl, rfl, rfl, rfl, rfl, rfl, rfl, _, rfl, rfl⟩,
    rfl, h.awake, rfl, rfl, _, rfl, rfl, rfl⟩

end

end Sys2Proof.Machine
end

section
/-! PROOFS. ERASE run unit by unit (R164 to R168): the units that are left at the head of a loop, the two frames of a
unit, and the run to Success when the one poll after each unit is idle. -/

namespace Sys2Proof.Machine

/-! ### The units that are left -/

/-- The erase frames that the loop of `u` sends from its head on (R165, R166). -/
def EraseSize.layout : EraseSize → Nat → Nat → List (List Byte)
  | .block, cur, rem => eraseLayout cur rem
  | .sector, cur, rem => EraseSize.sector.frames cur (rem / 4096)

/-- At the head of the loop of `u`, with these `cur` and `rem`, the frames `left` are still to be sent. -/
structure UnitsLeft (u : EraseSize) (cur rem : Nat) (left : List (List Byte)) : Prop where
  layout     : left = u.layout cur rem
  curAligned : cur % 4096 = 0
  remAligned : rem % 4096 = 0

/-- The first frame left is that of the unit `u` at `cur`, which is aligned, and `rest` is left after it (R164). -/
structure NextUnit (u : EraseSize) (cur rem : Nat) (left rest : List (List Byte)) : Prop where
  first   : left = u.frame cur :: rest
  aligned : cur % u.bytes = 0
  after   : UnitsLeft u (cur + u.bytes) (rem - u.bytes) rest

theorem EraseSize.block_bytes : EraseSize.block.bytes = 32768 := rfl

theorem EraseSize.sector_bytes : EraseSize.sector.bytes = 4096 := rfl

section
variable {cur rem : Nat} {left : List (List Byte)}

/-- After a unit, `cur` and `rem` are multiples of the sector as before. -/
theorem UnitsLeft.after {u v : EraseSize} {rest : List (List Byte)} (h : UnitsLeft v cur rem left)
    (hrest : rest = u.layout (cur + u.bytes) (rem - u.bytes)) :
    UnitsLeft u (cur + u.bytes) (rem - u.bytes) rest := by
  have hcur := h.curAligned
  have hrem := h.remAligned
  have hunit : u.bytes % 4096 = 0 := by cases u <;> rfl
  exact ⟨hrest, by omega, by omega⟩

/-- A block at the head of the first loop is the first of the layout (R165, R168). -/
theorem UnitsLeft.block (h : UnitsLeft .block cur rem left) (hcur : cur % 32768 = 0) (hrem : 32768 ≤ rem) :
    ∃ rest, NextUnit .block cur rem left rest := by
  have blocks : blockCount cur rem = blockCount (cur + 32768) (rem - 32768) + 1 := by
    simp only [blockCount, Nat.add_mod_right]
    split <;> omega
  have sectors : sectorCount cur rem = sectorCount (cur + 32768) (rem - 32768) := by
    simp only [sectorCount, Nat.add_mod_right]
    split <;> omega
  have start : cur + 32768 * (blockCount (cur + 32768) (rem - 32768) + 1) =
      cur + 32768 + 32768 * blockCount (cur + 32768) (rem - 32768) := by omega
  refine ⟨eraseLayout (cur + 32768) (rem - 32768), ?_, hcur, .after h rfl⟩
  rw [h.layout, EraseSize.layout, eraseLayout_eq, eraseLayout_eq, blocks, sectors, EraseSize.frames_succ, start,
    List.cons_append, EraseSize.block_bytes]

/-- Where no block fits, only sectors are left (R166, R168). -/
theorem UnitsLeft.sectors (h : UnitsLeft .block cur rem left) (hfits : ¬(cur % 32768 = 0 ∧ 32768 ≤ rem)) :
    UnitsLeft .sector cur rem left := by
  have blocks : blockCount cur rem = 0 := by
    unfold blockCount
    split <;> omega
  have sectors : sectorCount cur rem = rem / 4096 := by
    unfold sectorCount
    split
    next hc => rw [Nat.mod_eq_of_lt (by omega)]
    · rfl
  refine ⟨?_, h.curAligned, h.remAligned⟩
  rw [h.layout, EraseSize.layout, eraseLayout_eq, blocks, sectors]
  rfl

/-- A sector at the head of the second loop (R166). -/
theorem UnitsLeft.sector (h : UnitsLeft .sector cur rem left) (hrem : 0 < rem) :
    ∃ rest, NextUnit .sector cur rem left rest := by
  have aligned := h.remAligned
  have count : rem / 4096 = (rem - 4096) / 4096 + 1 := by omega
  refine ⟨EraseSize.sector.frames (cur + 4096) ((rem - 4096) / 4096), ?_, h.curAligned, .after h rfl⟩
  rw [h.layout, EraseSize.layout, count, EraseSize.frames_succ, EraseSize.sector_bytes]

theorem UnitsLeft.nothing (h : UnitsLeft .sector cur 0 left) : left = [] := h.layout

end

/-! ### From the head of a loop to the next unit -/

section
variable {o n : Operand} {s v w : State} {u : EraseSize} {left rest : List (List Byte)}

/-- ERASE is at the head of the loop of `u`, and the frames `left` are still to be sent. -/
def AtHead (u : EraseSize) (v : State) (left : List (List Byte)) : Prop :=
  v.seq = .erase u.loopHead ∧ UnitsLeft u v.cur v.rem left

/-- ERASE has nothing left and answers, or goes on to a unit. -/
def GoesToUnit (v : State) (left : List (List Byte)) : Prop :=
  (left = [] ∧ ∃ m, steps m v = .next (v.answer .success)) ∨
    ∃ m u rest, NextUnit u v.cur v.rem left rest ∧ steps m v = .next (v.goto (.erase (.wen u)))

theorem Running.goesToUnit_sectors (h : Running (.erase o n) v) (hh : AtHead .sector v left) : GoesToUnit v left := by
  obtain ⟨hs, hleft⟩ := hh
  have goes := steps_one (h.step.trans (execErase_sectors hs))
  obtain hrem | hrem := Nat.eq_zero_or_pos v.rem
  · rw [if_neg hrem.not_gt] at goes
    rw [hrem] at hleft
    exact .inl ⟨hleft.nothing, _, goes⟩
  · rw [if_pos hrem] at goes
    obtain ⟨rest, hnext⟩ := hleft.sector hrem
    exact .inr ⟨_, _, rest, hnext, goes⟩

theorem Running.goesToUnit_blocks (h : Running (.erase o n) v) (hh : AtHead .block v left) : GoesToUnit v left := by
  obtain ⟨hs, hleft⟩ := hh
  have goes := steps_one (h.step.trans (execErase_blocks hs))
  by_cases hfits : blockFits v.cur v.rem = true
  · rw [if_pos hfits] at goes
    obtain ⟨hcur, hrem⟩ := blockFits_eq_true.1 hfits
    obtain ⟨rest, hnext⟩ := hleft.block hcur hrem
    exact .inr ⟨_, _, rest, hnext, goes⟩
  · rw [if_neg hfits] at goes
    obtain ⟨hnil, m, hm⟩ | ⟨m, u, rest, hnext, hm⟩ :=
      (h.goto (k := .erase .sectors) nofun).goesToUnit_sectors ⟨rfl, hleft.sectors (mt blockFits_eq_true.2 hfits)⟩
    · exact .inl ⟨hnil, _, steps_trans goes hm⟩
    · exact .inr ⟨_, u, rest, hnext, steps_trans goes hm⟩

theorem EraseSize.command_isOperation (u : EraseSize) (a : Nat) : (u.command a).isOperation = false := by
  cases u <;> rfl

theorem EraseSize.command_fitsFormat (u : EraseSize) (a : Nat) : (u.command a).fitsFormat = true := by
  cases u <;> rfl

/-- The two frames of the unit `u` sent, ERASE at the start of the `Wait()` after them (R164). -/
def State.unitIssued (v : State) (u : EraseSize) : State :=
  (v.issued .writeEnable (.erase (.cmd u))).issued (u.command v.cur) (.erase (.waiting u .start))

/-- Neither frame of a unit moves the power mirror (R121). -/
theorem unitIssued_poweredDown (v : State) (u : EraseSize) : (v.unitIssued u).poweredDown = v.poweredDown := by
  rw [State.unitIssued, issued_poweredDown]
  cases u <;> rfl

theorem sameWork_unitIssued (v : State) (u : EraseSize) : SameWork v (v.unitIssued u) :=
  ((sameWork_refl v).issued _ _).issued _ _

/-- The two frames of a unit leave what is left to be sent after it. -/
theorem UnitsLeft.unitIssued (h : UnitsLeft u (v.cur + u.bytes) (v.rem - u.bytes) left) :
    UnitsLeft u ((v.unitIssued u).cur + u.bytes) ((v.unitIssued u).rem - u.bytes) left := by
  obtain ⟨-, -, hcur, hrem, -⟩ := sameWork_unitIssued v u
  rwa [hcur, hrem]

theorem unitIssued_responses (v : State) (u : EraseSize) : (v.unitIssued u).responses = v.responses := by
  simp only [State.unitIssued, issued_responses]

/-- The two frames of a unit are five bytes long. -/
theorem unitIssued_rx (v : State) (u : EraseSize) : (v.unitIssued u).rx = v.rx.skip 5 := by
  have sent : (v.unitIssued u).rx = (v.rx.skip 1).skip ((encodeFrame (u.command v.cur)).getD []).length := rfl
  rw [sent, encodeFrame_command, Source.skip_skip]
  rfl

theorem Running.unitIssued (h : Running (.erase o n) v) (u : EraseSize) : Running (.erase o n) (v.unitIssued u) := by
  have latched : Running (.erase o n) (v.issued .writeEnable (.erase (.cmd u))) := h.issued _ nofun
  exact latched.issued _ (k := .erase (.waiting u .start)) nofun

/-- An aligned unit passes its re-check and has its two frames sent (R164; log 9). -/
theorem Running.issues_unit (h : Running (.erase o n) v) (hu : v.cur % u.bytes = 0) :
    steps 4 (v.goto (.erase (.wen u))) = .next (v.unitIssued u) := by
  have atWen : Running (.erase o n) (v.goto (.erase (.wen u))) := h.goto nofun
  have atCmd : Running (.erase o n) (v.issued .writeEnable (.erase (.cmd u))) := h.issued _ nofun
  have latches := atWen.issues (execErase_wen_aligned rfl hu) h.onBus rfl rfl rfl
  have erases := atCmd.issues (execErase_cmd rfl) h.onBus (u.command_isOperation _) (u.command_fitsFormat _)
    (encodeFrame_command u _)
  exact steps_trans latches erases

/-- From the head of a loop ERASE answers Success with nothing left, or has the next unit's frames sent (R165, R166). -/
theorem Running.next_unit (h : Running (.erase o n) v) (hh : AtHead u v left) :
    (left = [] ∧ ∃ m, steps m v = .next (v.answer .success)) ∨
      ∃ m u' rest, NextUnit u' v.cur v.rem left rest ∧ steps (m + 4) v = .next (v.unitIssued u') := by
  have goes : GoesToUnit v left := by
    cases u with
    | block => exact h.goesToUnit_blocks hh
    | sector => exact h.goesToUnit_sectors hh
  refine goes.imp_right fun ⟨m, u', rest, hnext, hm⟩ => ?_
  exact ⟨m, u', rest, hnext, steps_trans hm (h.issues_unit hnext.aligned)⟩

theorem unitIssued_trace (v : State) (u : EraseSize) : ∃ m1 m2 : List Byte,
    (v.unitIssued u).trace = v.trace ++ [.frame [0x06#8] m1, .frame (u.frame v.cur) m2] := by
  obtain ⟨hlatch, -⟩ := sentFrame_issued (j := .writeEnable) v (.erase (.cmd u)) rfl rfl
  obtain ⟨herase, -⟩ := sentFrame_issued (j := u.command v.cur) (v.issued .writeEnable (.erase (.cmd u)))
    (.erase (.waiting u .start)) (u.command_fitsFormat _) (encodeFrame_command u _)
  exact ⟨_, _, herase.trans ((congrArg (· ++ _) hlatch).trans (List.append_assoc _ _ _))⟩

/-- The frames of a unit are commands, and no polls. -/
theorem unit_counts (u : EraseSize) (a : Nat) (m1 m2 : List Byte) :
    commandsSent [.frame [0x06#8] m1, .frame (u.frame a) m2] = [[0x06#8], u.frame a] ∧
      pollCount [.frame [0x06#8] m1, .frame (u.frame a) m2] = 0 := by
  cases u <;> exact ⟨rfl, rfl⟩

/-- A unit that `Wait()` finds erased leads to the head of its loop, with what is left after it (R165, R166). -/
theorem Waited.erased (h : Waited s w) (hs : Running (.erase o n) s)
    (hleft : UnitsLeft u (s.cur + u.bytes) (s.rem - u.bytes) left) :
    Running (.erase o n) (eraseUnitDone u .success w) ∧ AtHead u (eraseUnitDone u .success w) left := by
  rw [← h.cur, ← h.rem] at hleft
  exact ⟨hs.congr h.noFrame (by cases u <;> exact nofun) h.bus h.req, rfl, hleft⟩

/-! ### ERASE up to its first loop -/

/-- ERASE accepted, the chip awake, and at the head of its first loop (R167). -/
def State.eraseStarted (s : State) (o n : Operand) : State :=
  { (s.accept.goto (.erase .wake)).woken with cur := o.toNat, rem := n.toNat }.goto (.erase .blocks)

/-- An accepted ERASE wakes the chip and comes to its first loop, with its whole layout left (R167, R168). -/
theorem erase_starts (h : Ready (.erase o n) s) (hsum : o.toNat + n.toNat ≤ s.flashSize) (ho : o.toNat % 4096 = 0)
    (hn : n.toNat % 4096 = 0) :
    ∃ m, exec (.erase o n) s = .next (s.accept.goto (.erase .wake)) ∧
      steps m (s.accept.goto (.erase .wake)) = .next (s.eraseStarted o n) ∧
      Running (.erase o n) (s.eraseStarted o n) ∧
      AtHead .block (s.eraseStarted o n) (eraseLayout o.toNat n.toNat) := by
  have ⟨⟨hs, _⟩, hi, _⟩ := h
  have accepted := execErase_idle (o := o) (n := n) hs hi
  rw [acceptUnless_of_accepted (eraseRejects_eq_false.2 ⟨hsum, ho, hn⟩)] at accepted
  have starts := h.running (k := .erase .wake) nofun
  have wakes := starts.wakes (execErase_wake rfl)
  have goes := steps_one (starts.woken.step.trans (execErase_wake rfl))
  exact ⟨_, accepted, steps_trans wakes goes, starts.woken.congr starts.noFrame nofun rfl rfl, rfl, rfl, ho, hn⟩

/-! ### ERASE of a chip that no poll finds busy -/

/-- The first poll after a unit's frames receives the seventh byte to come. -/
theorem pollBusy_unitIssued (hp : v.poweredDown = false) (u : EraseSize) :
    pollBusy (v.unitIssued u) 0 = busyBit (v.rx.peek Config.freeRx 6) := by
  have awake := (unitIssued_poweredDown v u).trans hp
  simp only [pollBusy, wakeBytes_of_awake awake, unitIssued_rx, Source.peek_skip]

/-- The two frames of a unit receive five bytes. -/
theorem idleRun_unitIssued (hp : v.poweredDown = false) (u : EraseSize) : IdleRun v (v.unitIssued u) 5 0 := by
  obtain ⟨m1, m2, htrace⟩ := unitIssued_trace v u
  obtain ⟨-, hpolls⟩ := unit_counts u v.cur m1 m2
  obtain ⟨-, -, -, -, -, -, -, -, hanswers, -⟩ := sameWork_unitIssued v u
  exact ⟨hanswers, (unitIssued_poweredDown v u).trans hp, unitIssued_responses v u, unitIssued_rx v u, _, htrace,
    hpolls, rfl⟩

/-- A unit that the first poll finds erased: seven bytes received, one poll, and the head of its loop again. -/
theorem Running.erases_unit (h : Running (.erase o n) v) (hp : v.poweredDown = false) (ho : v.answers = .oracle)
    (hb : busyBit (v.rx.peek Config.freeRx 6) = false)
    (hleft : UnitsLeft u (v.cur + u.bytes) (v.rem - u.bytes) left) :
    ∃ m w, steps m (v.unitIssued u) = .next w ∧ Running (.erase o n) w ∧ AtHead u w left ∧ IdleRun v w 7 1 := by
  have issued := idleRun_unitIssued hp u
  have start : WaitStarts (.eraseUnit u) (.erase o n) (v.unitIssued u) :=
    ⟨rfl, h.unitIssued u, rfl, issued.awake, issued.answers.trans ho⟩
  obtain ⟨m, w, hsteps, hw, hidle⟩ := start.succeedsAtOnce ((pollBusy_unitIssued hp u).trans hb)
  obtain ⟨hrun, hhead⟩ := hw.erased (h.unitIssued u) hleft.unitIssued
  have erased : IdleRun (v.unitIssued u) (eraseUnitDone u .success w) 2 1 :=
    ⟨hidle.answers, hidle.awake, hidle.responses, hidle.rx, hidle.trace⟩
  exact ⟨m, _, hsteps, hrun, hhead, issued.trans erased⟩

/-- With an idle first poll after each unit, ERASE sends what is left and answers Success. -/
theorem Running.erases_idle (h : Running (.erase o n) v) (hp : v.poweredDown = false) (ho : v.answers = .oracle)
    (hh : AtHead u v left)
    (hb : ∀ j, j < left.length → busyBit (v.rx.peek Config.freeRx (7 * j + 6)) = false) :
    ∃ m w, steps m v = .next (w.answer .success) ∧ w.frame = none ∧ IdleRun v w (7 * left.length) left.length := by
  induction left generalizing v u with
  | nil =>
    obtain ⟨-, m, hm⟩ | ⟨_, _, _, hnext, -⟩ := h.next_unit hh
    · exact ⟨m, v, hm, h.noFrame, rfl, hp, rfl, rfl, [], (List.append_nil _).symm, rfl, rfl⟩
    · cases hnext.first
  | cons f left ih =>
    obtain ⟨hnil, -⟩ | ⟨m, u', rest, hnext, hm⟩ := h.next_unit hh
    · cases hnil
    obtain ⟨rfl, rfl⟩ := List.cons.inj hnext.first
    obtain ⟨m', w, hm', hw, hhead, hunit⟩ := h.erases_unit hp ho (hb 0 (Nat.succ_pos _)) hnext.after
    obtain ⟨m'', x, hm'', hf, hrest⟩ := ih hw hunit.awake (hunit.answers.trans ho) hhead fun j hj => by
      rw [hunit.rx, Source.peek_skip, ← Nat.add_assoc, Nat.add_comm 7, ← Nat.mul_succ]
      exact hb (j + 1) (Nat.succ_lt_succ hj)
    have run := hunit.trans hrest
    rw [Nat.add_comm 7, Nat.add_comm 1] at run
    exact ⟨_, x, steps_trans hm (steps_trans hm' hm''), hf, run⟩

end

/-- Settles O39: ERASE comes to its first loop, and goes through its units. -/
theorem eraseOfAnIdleChipSucceeds : Obligations.EraseOfAnIdleChipSucceeds := by
  intro s o n h hans hb hsum ho hn
  obtain ⟨m, he, hm, hrun, hhead⟩ := erase_starts h hsum ho hn
  obtain ⟨-, hpolls, hticks⟩ := wakeTrace_counts s
  have woken : IdleRun s (s.eraseStarted o n) (wakeBytes s) 0 :=
    ⟨rfl, rfl, rfl, rfl, s.wakeTrace, rfl, hpolls, hticks ▸ rfl⟩
  obtain ⟨m', w, hm', hf, herased⟩ := hrun.erases_idle woken.awake (woken.answers.trans hans) hhead fun j hj => by
    rw [woken.rx, Source.peek_skip, ← Nat.add_assoc]
    exact hb j hj
  have run := woken.trans herased
  rw [Nat.zero_add] at run
  obtain ⟨tail, htrace, hpolls, hticks⟩ := run.trace
  exact ⟨_, tail, ⟨_, he, _, steps_trans hm hm'⟩, ⟨rfl, hf, rfl, congrArg (· ++ _) run.responses⟩, run.awake, htrace,
    hpolls, hticks⟩

end Sys2Proof.Machine
end

section
/-! PROOFS. ERASE to whatever end the chip and the clock lead it (R165 to R168): between two rounds it has sent the
first units of its layout. -/

namespace Sys2Proof.Machine

/-- The frames of erase units, each directly preceded by the write-enable (R72). -/
def latched (units : List (List Byte)) : List (List Byte) := units.flatMap fun f => [[0x06#8], f]

/-- The ERASE that `s` accepted runs in `v`: the units `sent` of its layout are sent, and `left` is left. -/
structure Erasing (s : State) (o n : Operand) (sent left : List (List Byte)) (v : State) : Prop where
  running   : Running (.erase o n) v
  awake     : v.poweredDown = false
  responses : v.responses = s.responses
  layout    : eraseLayout o.toNat n.toNat = sent ++ left
  trace     : ∃ tail, v.trace = s.trace ++ tail ∧ commandsSent tail = s.wakeCommands ++ latched sent

/-- ERASE is before a poll of the `Wait()` after a unit `u`, and the frames `left` are still to be sent. -/
def AtPoll (u : EraseSize) (v : State) (left : List (List Byte)) : Prop :=
  v.seq = .erase (.waiting u .poll) ∧ UnitsLeft u (v.cur + u.bytes) (v.rem - u.bytes) left

/-- Where a round of ERASE begins: at the head of a loop, or before a poll after some unit. -/
def EraseRound (s : State) (o n : Operand) (v : State) : Prop :=
  ∃ sent left u, Erasing s o n sent left v ∧ (AtHead u v left ∨ sent ≠ [] ∧ AtPoll u v left)

/-- Where ERASE ends: all units sent and Success, or some and Timeout (R167, R221). -/
def EraseEnds (s : State) (o n : Operand) (w : State) : Prop :=
  ∃ tail k, w.trace = s.trace ++ tail ∧
    commandsSent tail = s.wakeCommands ++ latched ((eraseLayout o.toNat n.toNat).take k) ∧
    (w.resp = some ⟨.success, none, none⟩ ∧ k = (eraseLayout o.toNat n.toNat).length ∨
      w.resp = some ⟨.timeout, none, none⟩ ∧ 1 ≤ k ∧ k ≤ (eraseLayout o.toNat n.toNat).length)

section
variable {o n : Operand} {s v w : State} {u : EraseSize} {sent left rest : List (List Byte)}

/-- ERASE goes on, the frames of `units` sent meanwhile. -/
theorem Erasing.goesOn (h : Erasing s o n sent left v) (hw : Running (.erase o n) w) (hp : w.poweredDown = false)
    (hr : w.responses = v.responses) {units : List (List Byte)} (hleft : left = units ++ rest)
    (htr : ∃ tail, w.trace = v.trace ++ tail ∧ commandsSent tail = latched units) :
    Erasing s o n (sent ++ units) rest w := by
  obtain ⟨tail, htrace, hsent⟩ := h.trace
  obtain ⟨tail', htrace', hunits⟩ := htr
  refine ⟨hw, hp, hr.trans h.responses, ?_, tail ++ tail', ?_, ?_⟩
  · rw [h.layout, hleft, List.append_assoc]
  · rw [htrace', htrace, List.append_assoc]
  · rw [commandsSent_append, hsent, hunits, latched, latched, latched, List.flatMap_append, List.append_assoc]

/-- ERASE ends with what it has sent. -/
theorem Erasing.ends (h : Erasing s o n sent left v) (htr : w.trace = v.trace)
    (hr : w.resp = some ⟨.success, none, none⟩ ∧ left = [] ∨ w.resp = some ⟨.timeout, none, none⟩ ∧ sent ≠ []) :
    EraseEnds s o n w := by
  obtain ⟨tail, htrace, hsent⟩ := h.trace
  refine ⟨tail, sent.length, htr.trans htrace, ?_, ?_⟩
  · rw [h.layout, List.take_left, hsent]
  · rw [h.layout, List.length_append]
    refine hr.imp (fun ⟨hresp, hnil⟩ => ⟨hresp, by simp [hnil]⟩) fun ⟨hresp, hne⟩ => ⟨hresp, ?_, Nat.le_add_right _ _⟩
    exact List.length_pos_iff.2 hne

/-- A unit is sent, and ERASE is before the first poll after it (R164). -/
theorem Erasing.sends (h : Erasing s o n sent left v) (hnext : NextUnit u v.cur v.rem left rest) :
    ∃ w, steps 1 (v.unitIssued u) = .next w ∧ w.responses = v.responses ∧
      Erasing s o n (sent ++ [u.frame v.cur]) rest w ∧ AtPoll u w rest := by
  have issued := h.running.unitIssued u
  have awake := (unitIssued_poweredDown v u).trans h.awake
  have starts := exec_wait_start (p := .eraseUnit u) (i := .erase o n) (s := v.unitIssued u) rfl rfl
  rw [wakeThen_of_awake awake] at starts
  have reads := steps_one (issued.step.trans starts)
  have responses := unitIssued_responses v u
  have after := hnext.after.unitIssued
  obtain ⟨m1, m2, hunit⟩ := unitIssued_trace v u
  obtain ⟨hcmds, -⟩ := unit_counts u v.cur m1 m2
  generalize v.unitIssued u = x at *
  have atPoll : Running (.erase o n) (x.markStart.goto (.erase (.waiting u .poll))) :=
    issued.congr issued.noFrame nofun rfl rfl
  have hsent : commandsSent ([.frame [0x06#8] m1, .frame (u.frame v.cur) m2] ++ [.now x.readClock.clock]) =
      latched [u.frame v.cur] := by
    rw [commandsSent_append, hcmds]
    rfl
  have htrace := (congrArg (· ++ [Event.now x.readClock.clock]) hunit).trans (List.append_assoc _ _ _)
  exact ⟨_, reads, responses, h.goesOn atPoll awake responses hnext.first ⟨_, htrace, hsent⟩, rfl, after⟩

/-- From a poll after a unit ERASE comes to the head of the unit's loop, to its Timeout, or to the next poll (R167). -/
theorem Erasing.polls (h : Erasing s o n sent left v) (hne : sent ≠ []) (hpoll : AtPoll u v left) :
    RoundLeads (EraseRound s o n) (EraseEnds s o n) v := by
  obtain ⟨hs, hleft⟩ := hpoll
  obtain ⟨m, w, t, hm, hsteps, hw, ht⟩ := h.running.waits_on (p := .eraseUnit u) rfl hs h.awake
  have waited {x : State} (hx : Running (.erase o n) x) (hp : x.poweredDown = w.poweredDown)
      (hr : x.responses = w.responses) (htr : x.trace = w.trace) : Erasing s o n sent left x := by
    have := h.goesOn (units := []) hx (hp.trans (hw.power.trans h.awake)) (hr.trans hw.responses) rfl (htr ▸ hw.trace)
    rwa [List.append_nil] at this
  have again := waited (hw.running h.running (k := .erase (.waiting u .poll)) nofun) rfl rfl rfl
  obtain rfl | rfl | rfl := ht
  · rw [← WaitPlace.done_success] at hsteps
    obtain ⟨hrun, hhead⟩ := hw.erased h.running hleft
    exact .inl ⟨m, _, hm, hsteps, hw.responses, _, _, u, waited hrun rfl rfl rfl, .inl hhead⟩
  · exact .inr ⟨m, _, _, hsteps, ⟨rfl, hw.noFrame, rfl, congrArg (· ++ _) hw.responses⟩,
      again.ends rfl (.inr ⟨rfl, hne⟩)⟩
  · rw [← hw.cur, ← hw.rem] at hleft
    exact .inl ⟨m, _, hm, hsteps, hw.responses, _, _, u, again, .inr ⟨hne, rfl, hleft⟩⟩

/-- One round of ERASE (R164 to R167). -/
theorem EraseRound.goesOn (h : EraseRound s o n v) :
    RoundLeads (EraseRound s o n) (EraseEnds s o n) v := by
  obtain ⟨sent, left, u, h, hh | ⟨hne, hpoll⟩⟩ := h
  · obtain ⟨rfl, m, hm⟩ | ⟨m, u', rest, hnext, hm⟩ := h.running.next_unit hh
    · exact .inr ⟨m, _, _, hm, ⟨rfl, h.running.noFrame, rfl, rfl⟩, h.ends rfl (.inl ⟨rfl, rfl⟩)⟩
    · obtain ⟨w, hw, hr, herasing, hpoll⟩ := h.sends hnext
      exact .inl ⟨_, w, Nat.succ_pos _, steps_trans hm hw, hr, _, _, u', herasing, .inr ⟨by simp, hpoll⟩⟩
  · exact h.polls hne hpoll

end

/-- Settles O38: the rounds of ERASE from its first loop on. -/
theorem eraseSendsItsUnitsInOrder : Obligations.EraseSendsItsUnitsInOrder := by
  rintro s u o n r h hsum ho hn ⟨t, ht, k, hk⟩ hans
  obtain ⟨m, he, hm, hrun, hhead⟩ := erase_starts h hsum ho hn
  obtain rfl := Host.Outcome.next.inj (he.symm.trans ht)
  have started : Erasing s o n [] (eraseLayout o.toNat n.toNat) (s.eraseStarted o n) :=
    ⟨hrun, rfl, rfl, rfl, s.wakeTrace, rfl, (wakeTrace_counts s).1.trans (List.append_nil _).symm⟩
  obtain ⟨k', -, hk'⟩ := steps_through hm hk (hans.responses_lt started.responses)
  obtain ⟨tail, k, htrace, hcmds, hend⟩ : EraseEnds s o n u :=
    ends_of_rounds (fun v => EraseRound.goesOn) ⟨_, _, _, started, .inl hhead⟩ hk' (hans.congr started.responses)
  obtain ⟨-, -, hresp, -⟩ := hans
  rw [hresp, Option.some.injEq, Option.some.injEq] at hend
  exact ⟨tail, k, htrace, hcmds, hend⟩

end Sys2Proof.Machine
end

section
/-! PROOFS. The chunks of WRITE (R183, R185): how many bytes lie before each, where it starts and ends, and the program
frame that carries it. -/

namespace Sys2Proof.Machine

/-! ### Where the chunks lie -/

section
variable {o n i : Nat}

/-- A chunk of the request is a page that starts before the request's end (R185). -/
theorem lt_pageCount : i < pageCount o n ↔ 0 < n ∧ 256 * (o / 256 + i) < o + n := by
  unfold pageCount
  split <;> omega

theorem bytesBefore_zero : bytesBefore o n 0 = 0 := rfl

theorem bytesBefore_succ : bytesBefore o n (i + 1) = chunkEnd o n i - o := rfl

/-- A chunk starts after the bytes before it (R185). -/
theorem chunkStart_eq (h : i < pageCount o n) : chunkStart o i = o + bytesBefore o n i := by
  obtain ⟨-, hstart⟩ := lt_pageCount.1 h
  cases i with
  | zero => rfl
  | succ i =>
    rw [bytesBefore_succ, chunkStart, if_neg i.succ_ne_zero, chunkEnd]
    omega

/-- A chunk ends after its `chunkSize` bytes (R183, R185). -/
theorem chunkEnd_eq (h : i < pageCount o n) : chunkEnd o n i =
    o + bytesBefore o n i + chunkSize (o + bytesBefore o n i) (n - bytesBefore o n i) := by
  obtain ⟨-, hstart⟩ := lt_pageCount.1 h
  rw [chunkEnd, chunkSize, pageSize]
  cases i with
  | zero =>
    rw [bytesBefore_zero]
    omega
  | succ i =>
    rw [bytesBefore_succ, chunkEnd]
    omega

/-- Before each chunk some bytes remain. -/
theorem bytesBefore_lt (h : i < pageCount o n) : bytesBefore o n i < n := by
  obtain ⟨hn, hstart⟩ := lt_pageCount.1 h
  cases i with
  | zero => exact hn
  | succ i =>
    rw [bytesBefore_succ, chunkEnd]
    omega

/-- The bytes before the next chunk are those before this one and its own. -/
theorem bytesBefore_succ_eq (h : i < pageCount o n) : bytesBefore o n (i + 1) =
    bytesBefore o n i + chunkSize (o + bytesBefore o n i) (n - bytesBefore o n i) := by
  rw [bytesBefore_succ, chunkEnd_eq h]
  omega

/-- The chunks hold all bytes of the request (R185). -/
theorem bytesBefore_pageCount : bytesBefore o n (pageCount o n) = n := by
  cases hk : pageCount o n with
  | zero =>
    have empty : ¬0 < pageCount o n := hk.not_gt
    rw [lt_pageCount] at empty
    rw [bytesBefore_zero]
    omega
  | succ k =>
    have last : ¬k + 1 < pageCount o n := hk.not_gt
    have within : k < pageCount o n := hk ▸ k.lt_succ_self
    rw [lt_pageCount] at last within
    rw [bytesBefore_succ, chunkEnd]
    omega

/-- Settles O44: each chunk ends where the bytes before the next one end, and the last where all bytes end. -/
theorem chunksTileTheRequest : Obligations.ChunksTileTheRequest := by
  intro o n hn
  obtain ⟨k, hk⟩ : ∃ k, pageCount o n = k + 1 := Nat.exists_eq_add_one.2 (lt_pageCount.2 ⟨hn, by omega⟩)
  refine ⟨rfl, ?_, fun i hi => ?_, fun i hi => ?_⟩
  · rw [hk, Nat.add_sub_cancel, chunkEnd_eq (hk ▸ k.lt_succ_self), Nat.add_assoc,
      ← bytesBefore_succ_eq (hk ▸ k.lt_succ_self), ← hk, bytesBefore_pageCount]
  · have hi' := Nat.lt_of_succ_lt hi
    rw [chunkStart_eq hi, chunkEnd_eq hi', bytesBefore_succ_eq hi', Nat.add_assoc]
  · obtain ⟨hpos, -, hpage⟩ := chunkSize_bounds (cur := o + bytesBefore o n i) (Nat.sub_pos_of_lt (bytesBefore_lt hi))
    rw [chunkStart_eq hi, chunkEnd_eq hi, Nat.add_sub_cancel_left]
    exact ⟨Nat.lt_add_of_pos_right hpos, hpage⟩

end

/-! ### The points of WRITE -/

section
variable {s : State} {d : List Byte} {o n : Operand}

theorem execWrite_wake (hs : s.seq = .write .wake) : exec (.write (some d) o n) s = .next
    (s.wakeThen fun s => { s with cur := o.toNat, rem := n.toNat, idx := 0 }.goto (.write .chunks)) := by
  simp only [exec, execWrite, hs]

theorem execWrite_chunks_left (hs : s.seq = .write .chunks) (hr : 0 < s.rem) : exec (.write (some d) o n) s =
    .next ({ s with chunk := chunkSize s.cur s.rem }.goto (.write (.waitChunk .start))) := by
  simp only [exec, execWrite, hs, gt_iff_lt, hr, if_true]

theorem execWrite_chunks_done (hs : s.seq = .write .chunks) (hr : s.rem = 0) :
    exec (.write (some d) o n) s = .next (s.goto (.write (.waitLast .start))) := by
  simp only [exec, execWrite, hs, gt_iff_lt, hr, Nat.lt_irrefl, if_false]

theorem execWrite_wen (hs : s.seq = .write .wen) :
    exec (.write (some d) o n) s = .next ((s.post .writeEnable).goto (.write .cmd)) := by
  simp only [exec, execWrite, hs]

theorem execWrite_cmd (hs : s.seq = .write .cmd) : exec (.write (some d) o n) s =
    .next ((s.post (.pageProgram (wireAddr s.cur) (slice d s.idx s.chunk))).goto (.write .advance)) := by
  simp only [exec, execWrite, hs, Option.getD_some]

theorem execWrite_advance (hs : s.seq = .write .advance) : exec (.write (some d) o n) s = .next
    ({ s with cur := s.cur + s.chunk, idx := s.idx + s.chunk, rem := s.rem - s.chunk }.goto (.write .chunks)) := by
  simp only [exec, execWrite, hs]

end

/-- Settles O41: the points of WRITE, with the test of its loop. -/
theorem writeDoesWhatItsPointsSay : Obligations.WriteDoesWhatItsPointsSay := by
  intro s d o n _
  refine ⟨fun hs hp => ?_, execWrite_chunks_left, execWrite_chunks_done, execWrite_wen, execWrite_cmd,
    execWrite_advance⟩
  rw [execWrite_wake hs, wakeThen_of_awake hp]
  rfl

/-! ### The program frames -/

/-- The program frame of the `chunk` bytes from `idx` on, for the flash address `cur` (R186). -/
def programFrame (d : List Byte) (cur idx chunk : Nat) : List Byte :=
  0x02#8 :: addr3 (wireAddr cur) ++ slice d idx chunk

theorem encodeFrame_pageProgram (d : List Byte) (cur idx chunk : Nat) :
    encodeFrame (.pageProgram (wireAddr cur) (slice d idx chunk)) = some (programFrame d cur idx chunk) := rfl

section
variable {d : List Byte} {o n i : Nat}

theorem writeLayout_length : (writeLayout d o n).length = pageCount o n := by
  rw [writeLayout, List.length_map, List.length_range]

/-- The frame of chunk `i` follows those of the chunks before it (R185). -/
theorem writeLayout_take_succ (h : i < pageCount o n) : (writeLayout d o n).take (i + 1) =
    (writeLayout d o n).take i ++ [programFrame d (o + bytesBefore o n i) (bytesBefore o n i)
      (chunkSize (o + bytesBefore o n i) (n - bytesBefore o n i))] := by
  have frame : (writeLayout d o n)[i]'(h.trans_eq writeLayout_length.symm) = programFrame d (chunkStart o i)
      (chunkStart o i - o) (chunkEnd o n i - chunkStart o i) := by
    simp only [writeLayout, List.getElem_map, List.getElem_range]
    rfl
  rw [List.take_succ_eq_append_getElem (h.trans_eq writeLayout_length.symm), frame, chunkEnd_eq h, chunkStart_eq h,
    Nat.add_sub_cancel_left, Nat.add_sub_cancel_left]

end

end Sys2Proof.Machine
end

section
/-! PROOFS. WRITE run chunk by chunk (R183 to R185): the registers at the head of its loop, the two frames of a chunk,
and the run to Success when the one poll before each chunk and after the last is idle. -/

namespace Sys2Proof.Machine

/-! ### How far WRITE has come -/

/-- With the first `i` chunks of `[o, o + n)` written, the working registers stand behind the bytes of these (R184). -/
structure ChunksWritten (o n i : Nat) (v : State) : Prop where
  within : i ≤ pageCount o n
  cur    : v.cur = o + bytesBefore o n i
  idx    : v.idx = bytesBefore o n i
  rem    : v.rem = n - bytesBefore o n i

/-- Bytes remain, and `chunk` is the size of the next chunk (R183). -/
def ChunkDue (v : State) : Prop := 0 < v.rem ∧ v.chunk = chunkSize v.cur v.rem

section
variable {o n i : Nat} {v w : State}

theorem ChunksWritten.congr (h : ChunksWritten o n i v) (hcur : w.cur = v.cur) (hidx : w.idx = v.idx)
    (hrem : w.rem = v.rem) : ChunksWritten o n i w :=
  ⟨h.within, hcur.trans h.cur, hidx.trans h.idx, hrem.trans h.rem⟩

/-- Bytes remain as long as chunks do (R185). -/
theorem ChunksWritten.rem_pos (h : ChunksWritten o n i v) (hi : i < pageCount o n) : 0 < v.rem :=
  h.rem ▸ Nat.sub_pos_of_lt (bytesBefore_lt hi)

theorem ChunksWritten.rem_pageCount (h : ChunksWritten o n (pageCount o n) v) : v.rem = 0 := by
  rw [h.rem, bytesBefore_pageCount, Nat.sub_self]

theorem ChunksWritten.lt_of_rem (h : ChunksWritten o n i v) (hr : 0 < v.rem) : i < pageCount o n := by
  refine lt_of_le_of_ne h.within ?_
  rintro rfl
  exact hr.ne' h.rem_pageCount

theorem ChunksWritten.eq_of_rem (h : ChunksWritten o n i v) (hr : v.rem = 0) : i = pageCount o n :=
  h.within.eq_or_lt.resolve_right fun hi => (h.rem_pos hi).ne' hr

theorem ChunkDue.congr (h : ChunkDue v) (hcur : w.cur = v.cur) (hrem : w.rem = v.rem) (hchunk : w.chunk = v.chunk) :
    ChunkDue w := by
  rwa [ChunkDue, hcur, hrem, hchunk]

end

/-! ### The two frames of a chunk -/

/-- The two frames of the next chunk sent, WRITE at its advance (R184). -/
def State.chunkIssued (v : State) (d : List Byte) : State :=
  (v.issued .writeEnable (.write .cmd)).issued (.pageProgram (wireAddr v.cur) (slice d v.idx v.chunk))
    (.write .advance)

/-- The registers moved past the current chunk, WRITE at the head of its loop (R184). -/
def State.advanced (v : State) : State :=
  { v with cur := v.cur + v.chunk, idx := v.idx + v.chunk, rem := v.rem - v.chunk }.goto (.write .chunks)

/-- The next chunk written, WRITE at the head of its loop (R184). -/
def State.chunkWritten (v : State) (d : List Byte) : State := (v.chunkIssued d).advanced

section
variable {d : List Byte} {o n : Operand} {i : Nat} {s v : State}

theorem Running.chunkIssued (h : Running (.write (some d) o n) v) : Running (.write (some d) o n) (v.chunkIssued d) := by
  have atCmd : Running (.write (some d) o n) (v.issued .writeEnable (.write .cmd)) := h.issued _ nofun
  exact atCmd.issued _ nofun

theorem Running.advanced (h : Running (.write (some d) o n) v) : Running (.write (some d) o n) v.advanced :=
  h.congr h.noFrame nofun rfl rfl

/-- What the two frames of a chunk leave unchanged. -/
theorem chunkIssued_kept (v : State) (d : List Byte) : SameWork v (v.chunkIssued d) ∧
    (v.chunkIssued d).poweredDown = v.poweredDown ∧ (v.chunkIssued d).responses = v.responses := by
  refine ⟨((sameWork_refl v).issued _ _).issued _ _, ?_, ?_⟩
  · rw [State.chunkIssued, issued_poweredDown]
    rfl
  · simp only [State.chunkIssued, issued_responses]

/-- A chunk written moves the registers past it, and neither moves the power mirror nor responds (R184). -/
theorem chunkWritten_registers (v : State) (d : List Byte) :
    (v.chunkWritten d).cur = v.cur + v.chunk ∧ (v.chunkWritten d).idx = v.idx + v.chunk ∧
      (v.chunkWritten d).rem = v.rem - v.chunk ∧ (v.chunkWritten d).poweredDown = v.poweredDown ∧
      (v.chunkWritten d).responses = v.responses ∧ (v.chunkWritten d).answers = v.answers := by
  obtain ⟨⟨-, -, hcur, hrem, hchunk, hidx, -, -, hanswers, -⟩, hpower, hresponses⟩ := chunkIssued_kept v d
  exact ⟨congrArg₂ _ hcur hchunk, congrArg₂ _ hidx hchunk, congrArg₂ _ hrem hchunk, hpower, hresponses, hanswers⟩

/-- A chunk that is due has the bytes of its slice. -/
theorem ChunksWritten.slice_length (h : ChunksWritten o.toNat n.toNat i v) (hd : d.length = n.toNat)
    (hdue : ChunkDue v) : (slice d v.idx v.chunk).length = v.chunk := by
  obtain ⟨hrem, hchunk⟩ := hdue
  obtain ⟨-, hle, -⟩ := chunkSize_bounds (cur := v.cur) hrem
  have hr := h.rem
  have hidx := h.idx
  rw [slice, List.length_take, List.length_drop]
  omega

/-- A chunk that is due has its two frames sent, and the registers advance (R184; log 9). -/
theorem Running.writes_chunk (h : Running (.write (some d) o n) v) (hsent : ChunksWritten o.toNat n.toNat i v)
    (hd : d.length = n.toNat) (hdue : ChunkDue v) :
    steps 5 (v.goto (.write .wen)) = .next (v.chunkWritten d) := by
  have fits : (Instr.pageProgram (wireAddr v.cur) (slice d v.idx v.chunk)).fitsFormat = true := by
    rw [Instr.fitsFormat_pageProgram, hsent.slice_length hd hdue]
    obtain ⟨hrem, hchunk⟩ := hdue
    obtain ⟨hpos, -, hpage⟩ := chunkSize_bounds (cur := v.cur) hrem
    omega
  have atWen : Running (.write (some d) o n) (v.goto (.write .wen)) := h.goto nofun
  have atCmd : Running (.write (some d) o n) (v.issued .writeEnable (.write .cmd)) := h.issued _ nofun
  have latches := atWen.issues (execWrite_wen rfl) h.onBus rfl rfl rfl
  have programs := atCmd.issues (execWrite_cmd rfl) h.onBus rfl fits (encodeFrame_pageProgram _ _ _ _)
  have advances := steps_one (h.chunkIssued.step.trans (execWrite_advance rfl))
  exact steps_trans (steps_trans latches programs) advances

/-- One chunk more is written (R184, R185). -/
theorem ChunksWritten.succ (h : ChunksWritten o.toNat n.toNat i v) (hdue : ChunkDue v) :
    ChunksWritten o.toNat n.toNat (i + 1) (v.chunkWritten d) := by
  obtain ⟨hrem, hchunk⟩ := hdue
  have hi := h.lt_of_rem hrem
  have next := bytesBefore_succ_eq hi
  rw [← h.cur, ← h.rem, ← hchunk] at next
  obtain ⟨hcur, hidx, hrem, -⟩ := chunkWritten_registers v d
  refine ⟨hi, ?_, ?_, ?_⟩
  · rw [hcur, next, ← Nat.add_assoc, ← h.cur]
  · rw [hidx, next, ← h.idx]
  · rw [hrem, next, ← Nat.sub_sub, ← h.rem]

/-- The layout with one chunk more (R185). -/
theorem ChunksWritten.take_succ (h : ChunksWritten o.toNat n.toNat i v) (hdue : ChunkDue v) :
    (writeLayout d o.toNat n.toNat).take (i + 1) =
      (writeLayout d o.toNat n.toNat).take i ++ [programFrame d v.cur v.idx v.chunk] := by
  obtain ⟨hrem, hchunk⟩ := hdue
  rw [hchunk, h.cur, h.idx, h.rem]
  exact writeLayout_take_succ (h.lt_of_rem hrem)

theorem chunkWritten_trace (v : State) (d : List Byte) : ∃ m1 m2 : List Byte,
    (v.chunkWritten d).trace =
      v.trace ++ [.frame [0x06#8] m1, .frame (programFrame d v.cur v.idx v.chunk) m2] :=
  ⟨_, _, List.append_assoc _ _ _⟩

/-- The frames of a chunk are commands, and no polls. -/
theorem chunk_counts (d : List Byte) (cur idx chunk : Nat) (m1 m2 : List Byte) :
    commandsSent [.frame [0x06#8] m1, .frame (programFrame d cur idx chunk) m2] =
        [[0x06#8], programFrame d cur idx chunk] ∧
      pollCount [.frame [0x06#8] m1, .frame (programFrame d cur idx chunk) m2] = 0 :=
  ⟨rfl, rfl⟩

/-! ### WRITE up to the head of its loop -/

/-- WRITE accepted, the chip awake, and at the head of its loop (R184). -/
def State.writeStarted (s : State) (o n : Operand) : State :=
  { (s.accept.goto (.write .wake)).woken with cur := o.toNat, rem := n.toNat, idx := 0 }.goto (.write .chunks)

/-- An accepted WRITE wakes the chip and comes to its loop, with no chunk written (R184). -/
theorem write_starts (h : Ready (.write (some d) o n) s) (hsum : o.toNat + n.toNat ≤ s.flashSize) :
    ∃ m, exec (.write (some d) o n) s = .next (s.accept.goto (.write .wake)) ∧
      steps m (s.accept.goto (.write .wake)) = .next (s.writeStarted o n) ∧
      Running (.write (some d) o n) (s.writeStarted o n) ∧
      ChunksWritten o.toNat n.toNat 0 (s.writeStarted o n) := by
  have ⟨⟨hs, _⟩, hi, _⟩ := h
  have accepted := execWrite_idle (d := some d) (o := o) (n := n) hs hi
  rw [acceptUnless_of_accepted (writeRejects_eq_false.2 ⟨Option.some_ne_none d, hsum⟩)] at accepted
  have starts := h.running (k := .write .wake) nofun
  have wakes := starts.wakes (execWrite_wake rfl)
  have goes := steps_one (starts.woken.step.trans (execWrite_wake rfl))
  exact ⟨_, accepted, steps_trans wakes goes, starts.woken.congr starts.noFrame nofun rfl rfl, Nat.zero_le _, rfl, rfl,
    rfl⟩

/-! ### WRITE to a chip that no poll finds busy -/

/-- The frames of a chunk receive five bytes and one for each of the chunk's. -/
theorem ChunksWritten.idleRun (h : ChunksWritten o.toNat n.toNat i v) (hd : d.length = n.toNat) (hdue : ChunkDue v)
    (hp : v.poweredDown = false) : IdleRun v (v.chunkWritten d) (5 + v.chunk) 0 := by
  obtain ⟨m1, m2, htrace⟩ := chunkWritten_trace v d
  have rx : (v.chunkWritten d).rx = (v.rx.skip 1).skip ((slice d v.idx v.chunk).length + 4) := rfl
  rw [h.slice_length hd hdue, Source.skip_skip, Nat.add_comm v.chunk, ← Nat.add_assoc] at rx
  obtain ⟨-, -, -, hpower, hresponses, hanswers⟩ := chunkWritten_registers v d
  exact ⟨hanswers, hpower.trans hp, hresponses, rx, _, htrace, (chunk_counts _ _ _ _ m1 m2).2, rfl⟩

/-- With the chip awake, the first poll receives the second byte to come. -/
theorem pollBusy_of_awake (hp : v.poweredDown = false) : pollBusy v 0 = busyBit (v.rx.peek Config.freeRx 1) := by
  simp only [pollBusy, wakeBytes_of_awake hp]

/-- A chunk before which the first poll is idle is written, after one poll (R184). -/
theorem Running.writes_idle (h : Running (.write (some d) o n) v) (hs : v.seq = .write .chunks)
    (hsent : ChunksWritten o.toNat n.toNat i v) (hi : i < pageCount o.toNat n.toNat) (hd : d.length = n.toNat)
    (hp : v.poweredDown = false) (ho : v.answers = .oracle) (hb : busyBit (v.rx.peek Config.freeRx 1) = false) :
    ∃ m w, steps m v = .next w ∧ Running (.write (some d) o n) w ∧ w.seq = .write .chunks ∧
      ChunksWritten o.toNat n.toNat (i + 1) w ∧ IdleRun v w (7 + chunkSize v.cur v.rem) 1 := by
  have hrem := hsent.rem_pos hi
  have goes := steps_one (h.step.trans (execWrite_chunks_left hs hrem))
  have start : WaitStarts .writeChunk (.write (some d) o n)
      ({ v with chunk := chunkSize v.cur v.rem }.goto (.write (.waitChunk .start))) :=
    ⟨rfl, h.congr h.noFrame nofun rfl rfl, rfl, hp, ho⟩
  obtain ⟨m, w, hsteps, hw, hidle⟩ := start.succeedsAtOnce ((pollBusy_of_awake hp).trans hb)
  have sent := hsent.congr hw.cur hw.idx hw.rem
  have due : ChunkDue w := ChunkDue.congr (v := { v with chunk := chunkSize v.cur v.rem }) ⟨hrem, rfl⟩ hw.cur hw.rem
    hw.chunk
  have atWen : Running (.write (some d) o n) (w.goto (.write .wen)) := hw.running start.running nofun
  have writes := atWen.writes_chunk (sent.congr rfl rfl rfl) hd due
  have frames := sent.idleRun hd due hidle.awake
  rw [hw.chunk] at frames
  have waits : IdleRun v w 2 1 := ⟨hidle.answers, hidle.awake, hidle.responses, hidle.rx, hidle.trace⟩
  have run := waits.trans frames
  rw [← Nat.add_assoc] at run
  exact ⟨_, _, steps_trans goes (steps_trans hsteps writes), atWen.chunkIssued.advanced, rfl, sent.succ due, run⟩

/-- With an idle first poll before each, WRITE writes its first `i` chunks (R184, R185). -/
theorem Running.writes_chunks_idle (h : Running (.write (some d) o n) v) (hs : v.seq = .write .chunks)
    (hsent : ChunksWritten o.toNat n.toNat 0 v) (hd : d.length = n.toNat) (hp : v.poweredDown = false)
    (ho : v.answers = .oracle) (hi : i ≤ pageCount o.toNat n.toNat)
    (hb : ∀ j, j < i → busyBit (v.rx.peek Config.freeRx (7 * j + bytesBefore o.toNat n.toNat j + 1)) = false) :
    ∃ m w, steps m v = .next w ∧ Running (.write (some d) o n) w ∧ w.seq = .write .chunks ∧
      ChunksWritten o.toNat n.toNat i w ∧ IdleRun v w (7 * i + bytesBefore o.toNat n.toNat i) i := by
  induction i with
  | zero => exact ⟨0, v, rfl, h, hs, hsent, rfl, hp, rfl, rfl, [], (List.append_nil _).symm, rfl, rfl⟩
  | succ i ih =>
    obtain ⟨m, w, hm, hw, hhead, hwritten, hrun⟩ := ih (Nat.le_of_lt hi) fun j hj => hb j (Nat.lt_succ_of_lt hj)
    have hbusy : busyBit (w.rx.peek Config.freeRx 1) = false := by
      rw [hrun.rx, Source.peek_skip]
      exact hb i i.lt_succ_self
    obtain ⟨m', x, hm', hx, hhead', hwritten', hrun'⟩ :=
      hw.writes_idle hhead hwritten hi hd hrun.awake (hrun.answers.trans ho) hbusy
    have run := hrun.trans hrun'
    rw [hwritten.cur, hwritten.rem, Nat.add_add_add_comm, ← Nat.mul_succ, ← bytesBefore_succ_eq hi] at run
    exact ⟨_, x, steps_trans hm hm', hx, hhead', hwritten', run⟩

/-- With an idle first poll after the last chunk, WRITE answers Success (R184). -/
theorem Running.ends_idle (h : Running (.write (some d) o n) v) (hs : v.seq = .write .chunks) (hr : v.rem = 0)
    (hp : v.poweredDown = false) (ho : v.answers = .oracle) (hb : busyBit (v.rx.peek Config.freeRx 1) = false) :
    ∃ m w, steps m v = .next (w.answer .success) ∧ w.frame = none ∧ IdleRun v w 2 1 := by
  have goes := steps_one (h.step.trans (execWrite_chunks_done hs hr))
  have start : WaitStarts .writeLast (.write (some d) o n) (v.goto (.write (.waitLast .start))) :=
    ⟨rfl, h.goto nofun, rfl, hp, ho⟩
  obtain ⟨m, w, hsteps, hw, hidle⟩ := start.succeedsAtOnce ((pollBusy_of_awake hp).trans hb)
  exact ⟨_, w, steps_trans goes hsteps, hw.noFrame, hidle.answers, hidle.awake, hidle.responses, hidle.rx, hidle.trace⟩

end

/-- Settles O43: WRITE comes to its loop, goes through its chunks, and waits once more. -/
theorem writeToAnIdleChipSucceeds : Obligations.WriteToAnIdleChipSucceeds := by
  intro s d o n h hans hb hd hsum
  obtain ⟨m, he, hm, hrun, hsent⟩ := write_starts h hsum
  obtain ⟨-, hpolls, hticks⟩ := wakeTrace_counts s
  have woken : IdleRun s (s.writeStarted o n) (wakeBytes s) 0 :=
    ⟨rfl, rfl, rfl, rfl, s.wakeTrace, rfl, hpolls, hticks ▸ rfl⟩
  have polls (j : Nat) (hj : j ≤ pageCount o.toNat n.toNat) : busyBit ((s.writeStarted o n).rx.peek Config.freeRx
      (7 * j + bytesBefore o.toNat n.toNat j + 1)) = false := by
    rw [woken.rx, Source.peek_skip, ← Nat.add_assoc, ← Nat.add_assoc]
    exact hb j hj
  obtain ⟨m', w, hm', hw, hhead, hwritten, hchunks⟩ := hrun.writes_chunks_idle rfl hsent hd rfl hans le_rfl
    fun j hj => polls j (Nat.le_of_lt hj)
  have last : busyBit (w.rx.peek Config.freeRx 1) = false := by
    rw [hchunks.rx, Source.peek_skip]
    exact polls _ le_rfl
  obtain ⟨m'', x, hm'', hf, hlast⟩ :=
    hw.ends_idle hhead hwritten.rem_pageCount hchunks.awake (hchunks.answers.trans hans) last
  have run := woken.trans (hchunks.trans hlast)
  rw [Nat.zero_add] at run
  obtain ⟨tail, htrace, hpolls, hticks⟩ := run.trace
  exact ⟨_, tail, ⟨_, he, _, steps_trans hm (steps_trans hm' hm'')⟩, ⟨rfl, hf, rfl, congrArg (· ++ _) run.responses⟩,
    run.awake, htrace, hpolls, hticks⟩

end Sys2Proof.Machine
end

section
/-! PROOFS. WRITE to whatever end the chip and the clock lead it (R183 to R185): between two rounds it has sent the
first chunks of its layout. -/

namespace Sys2Proof.Machine

/-- The WRITE that `s` accepted runs in `v`, with the first `i` chunks of its layout sent and written. -/
structure Writing (s : State) (d : List Byte) (o n : Operand) (i : Nat) (v : State) : Prop where
  running   : Running (.write (some d) o n) v
  awake     : v.poweredDown = false
  responses : v.responses = s.responses
  written   : ChunksWritten o.toNat n.toNat i v
  trace     : ∃ tail, v.trace = s.trace ++ tail ∧
    commandsSent tail = s.wakeCommands ++ latched ((writeLayout d o.toNat n.toNat).take i)

/-- What follows a successful `Wait()` sets its own point. -/
theorem WaitPlace.succeeded_goto (p : WaitPlace) (s : State) (k : Seq) :
    p.succeeded (s.goto k) = p.succeeded s := by
  cases p with
  | eraseUnit u => cases u <;> rfl
  | _ => rfl

/-- What the registers hold at the two places where WRITE waits: a chunk to be sent, or none left (R184). -/
def WaitPlace.dueInWrite : WaitPlace → State → Prop
  | .writeChunk, v => ChunkDue v
  | .writeLast, v => v.rem = 0
  | _, _ => False

/-- Where a round of WRITE begins: at the head of its loop, or before a poll of one of its waits. -/
def WriteRound (s : State) (d : List Byte) (o n : Operand) (v : State) : Prop :=
  ∃ i, Writing s d o n i v ∧ (v.seq = .write .chunks ∨ ∃ p : WaitPlace, v.seq = p.at_ .poll ∧ p.dueInWrite v)

/-- Where WRITE ends: all chunks sent and Success, or some and Timeout (R184, R188). -/
def WriteEnds (s : State) (d : List Byte) (o n : Operand) (w : State) : Prop :=
  ∃ tail k, w.trace = s.trace ++ tail ∧
    commandsSent tail = s.wakeCommands ++ latched ((writeLayout d o.toNat n.toNat).take k) ∧
    (w.resp = some ⟨.success, none, none⟩ ∧ k = pageCount o.toNat n.toNat ∨
      w.resp = some ⟨.timeout, none, none⟩ ∧ k ≤ pageCount o.toNat n.toNat)

section
variable {d : List Byte} {o n : Operand} {i : Nat} {s v w : State} {p : WaitPlace}

/-- Only WRITE's own places have anything due in it. -/
theorem WaitPlace.belongs_of_dueInWrite (h : p.dueInWrite v) : p.belongs (.write (some d) o n) = true := by
  cases p with
  | writeChunk => rfl
  | writeLast => rfl
  | _ => cases h

theorem WaitPlace.dueInWrite_congr (h : p.dueInWrite v) (hcur : w.cur = v.cur) (hrem : w.rem = v.rem)
    (hchunk : w.chunk = v.chunk) : p.dueInWrite w := by
  cases p with
  | writeChunk => exact ChunkDue.congr h hcur hrem hchunk
  | writeLast => exact hrem.trans h
  | _ => cases h

/-- Polls, clock reads and moves to another point keep how far WRITE has come. -/
theorem Writing.goesOn (h : Writing s d o n i v) (hw : Running (.write (some d) o n) w)
    (hp : w.poweredDown = v.poweredDown) (hr : w.responses = v.responses)
    (hwritten : ChunksWritten o.toNat n.toNat i w)
    (htr : ∃ tail, w.trace = v.trace ++ tail ∧ commandsSent tail = []) : Writing s d o n i w := by
  obtain ⟨tail, htrace, hsent⟩ := h.trace
  obtain ⟨tail', htrace', hsent'⟩ := htr
  refine ⟨hw, hp.trans h.awake, hr.trans h.responses, hwritten, tail ++ tail', ?_, ?_⟩
  · rw [htrace', htrace, List.append_assoc]
  · rw [commandsSent_append, hsent, hsent', List.append_nil]

/-- A chunk written is one more of the layout (R184, R185). -/
theorem Writing.chunkWritten (h : Writing s d o n i v) (hdue : ChunkDue v) :
    Writing s d o n (i + 1) (v.chunkWritten d) := by
  obtain ⟨tail, htrace, hsent⟩ := h.trace
  obtain ⟨m1, m2, htrace'⟩ := chunkWritten_trace v d
  obtain ⟨hcmds, -⟩ := chunk_counts d v.cur v.idx v.chunk m1 m2
  obtain ⟨-, -, -, hpower, hresponses, -⟩ := chunkWritten_registers v d
  refine ⟨h.running.chunkIssued.advanced, hpower.trans h.awake, hresponses.trans h.responses, h.written.succ hdue,
    _, htrace'.trans ((congrArg (· ++ _) htrace).trans (List.append_assoc _ _ _)), ?_⟩
  rw [commandsSent_append, hsent, hcmds, h.written.take_succ hdue, latched, latched, List.flatMap_append,
    List.append_assoc]
  rfl

/-- WRITE ends with what it has sent. -/
theorem Writing.ends (h : Writing s d o n i v) (htr : w.trace = v.trace)
    (hr : w.resp = some ⟨.success, none, none⟩ ∧ v.rem = 0 ∨ w.resp = some ⟨.timeout, none, none⟩) :
    WriteEnds s d o n w := by
  obtain ⟨tail, htrace, hsent⟩ := h.trace
  exact ⟨tail, i, htr.trans htrace, hsent,
    hr.imp (fun ⟨hresp, hrem⟩ => ⟨hresp, h.written.eq_of_rem hrem⟩) fun hresp => ⟨hresp, h.written.within⟩⟩

/-- From the head of its loop WRITE comes to the start of a wait (R184). -/
theorem Writing.reaches_wait (h : Writing s d o n i v) (hs : v.seq = .write .chunks) :
    ∃ p w, steps 1 v = .next w ∧ w.responses = v.responses ∧ Writing s d o n i w ∧
      w.seq = WaitPlace.at_ p .start ∧ p.dueInWrite w := by
  obtain hrem | hrem := Nat.eq_zero_or_pos v.rem
  · have goes := steps_one (h.running.step.trans (execWrite_chunks_done hs hrem))
    exact ⟨.writeLast, _, goes, rfl, ⟨h.running.goto nofun, h.awake, h.responses, h.written.congr rfl rfl rfl, h.trace⟩,
      rfl, hrem⟩
  · have goes := steps_one (h.running.step.trans (execWrite_chunks_left hs hrem))
    exact ⟨.writeChunk, _, goes, rfl, ⟨h.running.congr h.running.noFrame nofun rfl rfl, h.awake, h.responses,
      h.written.congr rfl rfl rfl, h.trace⟩, rfl, hrem, rfl⟩

/-- The first clock read of a wait leads to its first poll (R148). -/
theorem Writing.reads_start (h : Writing s d o n i v) (hs : v.seq = p.at_ .start) (hdue : p.dueInWrite v) :
    ∃ w, steps 1 v = .next w ∧ w.responses = v.responses ∧ WriteRound s d o n w := by
  have reads := exec_wait_start (i := .write (some d) o n) (WaitPlace.belongs_of_dueInWrite hdue) hs
  rw [wakeThen_of_awake h.awake] at reads
  have running : Running (.write (some d) o n) (v.markStart.goto (p.at_ .poll)) :=
    h.running.congr h.running.noFrame (p.at_ne_idle _) rfl rfl
  exact ⟨_, steps_one (h.running.step.trans reads), rfl, i,
    h.goesOn running rfl rfl (h.written.congr rfl rfl rfl) ⟨_, rfl, rfl⟩, .inr ⟨p, rfl,
      WaitPlace.dueInWrite_congr hdue rfl rfl rfl⟩⟩

/-- A wait that succeeds leads to the chunk written, or ends WRITE (R184). -/
theorem Writing.succeeds (h : Writing s d o n i v) (hd : d.length = n.toNat) (hdue : p.dueInWrite v) :
    ∃ m w, steps m (p.succeeded v) = .next w ∧
      (w.responses = v.responses ∧ WriteRound s d o n w ∨ w = v.answer .success ∧ v.rem = 0) := by
  cases p with
  | writeChunk =>
    obtain ⟨-, -, -, -, hresponses, -⟩ := chunkWritten_registers v d
    exact ⟨5, _, h.running.writes_chunk h.written hd hdue, .inl ⟨hresponses, _, h.chunkWritten hdue, .inl rfl⟩⟩
  | writeLast => exact ⟨0, _, rfl, .inr ⟨rfl, hdue⟩⟩
  | _ => cases hdue

/-- From a poll WRITE comes to the head of its loop, to its end, or to the next poll (R184). -/
theorem Writing.polls (h : Writing s d o n i v) (hd : d.length = n.toNat) (hs : v.seq = p.at_ .poll)
    (hdue : p.dueInWrite v) : RoundLeads (WriteRound s d o n) (WriteEnds s d o n) v := by
  obtain ⟨m, w, t, hm, hsteps, hw, ht⟩ := h.running.waits_on (WaitPlace.belongs_of_dueInWrite hdue) hs h.awake
  have again : Writing s d o n i (w.goto (p.at_ .poll)) := h.goesOn (hw.running h.running (p.at_ne_idle _)) hw.power
    hw.responses (h.written.congr hw.cur hw.idx hw.rem) hw.trace
  have due : p.dueInWrite (w.goto (p.at_ .poll)) := WaitPlace.dueInWrite_congr hdue hw.cur hw.rem hw.chunk
  obtain rfl | rfl | rfl := ht
  · rw [← p.succeeded_goto w (p.at_ .poll)] at hsteps
    obtain ⟨m', x, hx, ⟨hr, hround⟩ | ⟨rfl, hrem⟩⟩ := again.succeeds hd due
    · exact .inl ⟨_, x, Nat.add_pos_left hm _, steps_trans hsteps hx, hr.trans hw.responses, hround⟩
    · exact .inr ⟨_, _, _, steps_trans hsteps hx, ⟨rfl, hw.noFrame, rfl, congrArg (· ++ _) hw.responses⟩,
        again.ends rfl (.inl ⟨rfl, hrem⟩)⟩
  · exact .inr ⟨m, _, _, hsteps, ⟨rfl, hw.noFrame, rfl, congrArg (· ++ _) hw.responses⟩, again.ends rfl (.inr rfl)⟩
  · exact .inl ⟨m, _, hm, hsteps, hw.responses, i, again, .inr ⟨p, rfl, due⟩⟩

/-- One round of WRITE (R184). -/
theorem WriteRound.goesOn (hd : d.length = n.toNat) (h : WriteRound s d o n v) :
    RoundLeads (WriteRound s d o n) (WriteEnds s d o n) v := by
  obtain ⟨i, h, hs | ⟨p, hs, hdue⟩⟩ := h
  · obtain ⟨p, w, hw, hr, hwriting, hstart, hdue⟩ := h.reaches_wait hs
    obtain ⟨x, hx, hr', hround⟩ := hwriting.reads_start hstart hdue
    exact .inl ⟨_, x, Nat.succ_pos _, steps_trans hw hx, hr'.trans hr, hround⟩
  · exact h.polls hd hs hdue

end

/-- Settles O42: the rounds of WRITE from the head of its loop on. -/
theorem writeSendsItsChunksInOrder : Obligations.WriteSendsItsChunksInOrder := by
  rintro s u d o n r h hd hsum ⟨t, ht, k, hk⟩ hans
  obtain ⟨m, he, hm, hrun, hwritten⟩ := write_starts h hsum
  obtain rfl := Host.Outcome.next.inj (he.symm.trans ht)
  have started : Writing s d o n 0 (s.writeStarted o n) :=
    ⟨hrun, rfl, rfl, hwritten, s.wakeTrace, rfl, (wakeTrace_counts s).1.trans (List.append_nil _).symm⟩
  obtain ⟨k', -, hk'⟩ := steps_through hm hk (hans.responses_lt started.responses)
  obtain ⟨tail, k, htrace, hcmds, hend⟩ : WriteEnds s d o n u :=
    ends_of_rounds (fun v => WriteRound.goesOn hd) ⟨0, started, .inl rfl⟩ hk' (hans.congr started.responses)
  obtain ⟨-, -, hresp, -⟩ := hans
  rw [hresp, Option.some.injEq, Option.some.injEq] at hend
  exact ⟨tail, k, htrace, hcmds, hend⟩

end Sys2Proof.Machine
end

section
/-! PROOFS. The bytes that READ DATA receives from the reference chip (R196), and the run of an operation of one query
frame (R199, R207, R210): it wakes, sends the frame with its fillers, and answers. From it the run of READ (R200). -/

namespace Sys2Proof.Machine

/-! ### What READ DATA receives -/

section
variable {s : State} {o n : Operand}

/-- A chip that obeys drives the bytes of its array after the four bytes of the command (R196). -/
theorem sent_readData_of_chip (h : s.answers = .chip) (hl : s.chip.listens = true) (a : FlashAddr) (xs : List Byte) :
    (s.sent (.readData a xs)).miso.drop 4 =
      (List.range xs.length).map fun j => s.chip.byteAt s.flashSize (a.toNat + j) := by
  show (s.received (.readData a xs) (xs.length + 4)).drop 4 = _
  have driven : (s.chip.reply s.flashSize (.readData a xs)).drop 4 =
      ((List.range xs.length).map fun j => s.chip.byteAt s.flashSize (a.toNat + j)).map some := by
    simp only [Chip.reply, hl, if_true, List.drop_left' (show (quiet 4).length = 4 from rfl), List.map_map]
    rfl
  rw [s.received_chip h, List.drop_zipWith, driven]
  exact zipWith_getD_some _ (by simp)

/-- Settles O18: the frame is sent, and its last bytes are those the chip drives. -/
theorem readDataReceivesTheArray : Obligations.ReadDataReceivesTheArray := fun s a xs hbus hans hl =>
  ⟨s.sent (.readData a xs), exec_wire_of_configured rfl hbus, sent_readData_of_chip hans hl a xs⟩

/-! ### An operation of one query frame -/

/-- The operation `i` is a query: at its points `at_` it calls `Wake()`, then composes the command `j` of `k` fillers,
whose frame is `head` and the fillers. -/
structure IsQuery (i : Instr) (at_ : QueryPoint → Seq) (k : Nat) (head : List Byte) (j : List Byte → Instr) : Prop where
  notIdle  : ∀ p, at_ p ≠ .idle
  wakes    : ∀ v : State, v.seq = at_ .wake → exec i v = .next (v.wakeThen fun v => v.goto (at_ .cmd))
  composes : ∀ v : State, v.seq = at_ .cmd →
    exec i v = .next (((v.tookFillers k).post (j (v.fillers k))).goto (at_ .finish))
  wire     : ∀ xs, (j xs).isOperation = false
  fits     : ∀ xs, xs.length = k → (j xs).fitsFormat = true
  encodes  : ∀ xs, encodeFrame (j xs) = some (head ++ xs)

/-- A query with its chip awake and its fillers drawn. -/
def State.queryAwake (s : State) (at_ : QueryPoint → Seq) (k : Nat) : State :=
  ((s.accept.goto (at_ .wake)).woken.goto (at_ .cmd)).tookFillers k

/-- A query with its frame sent, before its answer. -/
def State.queried (s : State) (at_ : QueryPoint → Seq) (k : Nat) (j : List Byte → Instr) : State :=
  (s.queryAwake at_ k).issued (j (s.fillers k)) (at_ .finish)

theorem fillers_length (s : State) (k : Nat) : (s.fillers k).length = k := Source.ahead_length _ _ _

theorem SameWork.tookFillers {t : State} (h : SameWork s t) (k : Nat) : SameWork s (t.tookFillers k) :=
  h.trans ⟨rfl, rfl, rfl, rfl, rfl, rfl, rfl, rfl, rfl, rfl, rfl⟩

theorem sameWork_queried (s : State) (at_ : QueryPoint → Seq) (k : Nat) (j : List Byte → Instr) :
    SameWork s (s.queried at_ k j) :=
  ((((sameWork_accept s).goto _).woken.goto _).tookFillers k).issued _ _

section
variable {i : Instr} {at_ : QueryPoint → Seq} {k : Nat} {head : List Byte} {j : List Byte → Instr}

/-- An accepted query wakes the chip, sends its frame, and comes to its answer. -/
theorem IsQuery.runs (q : IsQuery i at_ k head j) (h : Ready i s) :
    ∃ m, steps m (s.accept.goto (at_ .wake)) = .next (s.queried at_ k j) ∧ Running i (s.queried at_ k j) := by
  have starts := h.running (q.notIdle .wake)
  have atCommand := starts.woken.goto (q.notIdle .cmd)
  have wakes := starts.wakes (q.wakes _ rfl)
  have goes := steps_one (starts.woken.step.trans (q.wakes _ rfl))
  have issues := atCommand.issues (q.composes _ rfl) atCommand.onBus (q.wire _) (q.fits _ (fillers_length _ k))
    (q.encodes _)
  exact ⟨_, steps_trans (steps_trans wakes goes) issues, atCommand.congr rfl (q.notIdle .finish) rfl rfl⟩

/-- Beyond the release frame, if one was needed, a query has sent its one frame, and reads no clock. -/
theorem IsQuery.sentFrame (q : IsQuery i at_ k head j) (s : State) :
    (s.queried at_ k j).trace =
        s.trace ++ s.wakeTrace ++ [.frame (head ++ s.fillers k) (s.queried at_ k j).miso] ∧
      (s.queried at_ k j).miso.length = head.length + k := by
  obtain ⟨htrace, hlength, -⟩ := sentFrame_issued (s.queryAwake at_ k) (at_ .finish)
    (q.fits _ (fillers_length s k)) (q.encodes (s.fillers k))
  rw [List.length_append, fillers_length] at hlength
  exact ⟨htrace, hlength⟩

end

/-! ### READ -/

theorem isQuery_read (o n : Operand) : IsQuery (.read o n) .read n.toNat (0x03#8 :: addr3 (wireAddr o.toNat))
    (.readData (wireAddr o.toNat)) where
  notIdle := nofun
  wakes v hv := by simp only [exec, execRead, hv]
  composes v hv := by simp only [exec, execRead, hv]
  wire _ := rfl
  fits _ _ := rfl
  encodes _ := rfl

theorem execRead_finish (hs : s.seq = .read .finish) :
    exec (.read o n) s = .next (s.respond .success none (some (readPayload s.miso n))) := by
  simp only [exec, execRead, hs]

/-- The payload is all that was received from position 4 on (R199). -/
theorem readPayload_eq_drop {miso : List Byte} (h : miso.length = 4 + n.toNat) : readPayload miso n = miso.drop 4 :=
  List.take_of_length_le (by rw [List.length_drop, h, Nat.add_sub_cancel_left])

/-- READ with its frame sent, before its answer. -/
def State.readSent (s : State) (o n : Operand) : State := s.queried .read n.toNat (.readData (wireAddr o.toNat))

/-- An accepted READ wakes, sends its frame and answers what it received (R200). -/
theorem completes_read (h : Ready (.read o n) s) (hsum : o.toNat + n.toNat ≤ s.flashSize) :
    Completes (.read o n) s
      ((s.readSent o n).respond .success none (some (readPayload (s.readSent o n).miso n))) := by
  have ⟨⟨hs, _⟩, hi, _⟩ := h
  have accepted := execRead_idle (o := o) (n := n) hs hi
  rw [acceptUnless_of_accepted (exceedsFlash_eq_false.2 hsum)] at accepted
  obtain ⟨m, sends, running⟩ := (isQuery_read o n).runs h
  exact ⟨_, accepted, _, steps_trans sends (steps_one (running.step.trans (execRead_finish rfl)))⟩

/-- Settles O45: the run of READ, whose one frame receives the payload. -/
theorem readReturnsThePayload : Obligations.ReadReturnsThePayload := by
  intro s o n h hsum
  obtain ⟨htrace, hlength⟩ : _ ∧ (s.readSent o n).miso.length = 4 + n.toNat := (isQuery_read o n).sentFrame s
  have kept : SameWork s (s.readSent o n) := sameWork_queried s _ _ _
  have completes := completes_read h hsum
  rw [readPayload_eq_drop hlength] at completes
  exact ⟨_, s.wakeTrace, s.fillers n.toNat, _, completes, wakeEvents_wakeTrace s, fillers_length s _, hlength, htrace,
    ⟨rfl, rfl, rfl, rfl⟩, rfl, kept.respond _ _ _, rfl, rfl, rfl⟩

end

end Sys2Proof.Machine
end

section
/-! PROOFS. The identity queries (R207, R210): received bytes packed big-endian are their fields side by side (R56, R208),
and a query that answers a value delivers what its one frame received. -/

namespace Sys2Proof.Machine

/-! ### Big-endian packing -/

section
variable {b : Byte} {bs : List Byte}

/-- Packing further bytes moves those already packed to the left of them. -/
theorem foldl_packBE (acc : RespValue) (bs : List Byte) :
    bs.foldl (fun (acc : RespValue) b => (acc <<< 8) ||| b.setWidth 64) acc = acc <<< (8 * bs.length) ||| packBE bs := by
  induction bs generalizing acc with
  | nil => simp [packBE]
  | cons b bs ih =>
    have first : packBE (b :: bs) = b.setWidth 64 <<< (8 * bs.length) ||| packBE bs := by
      simpa [packBE] using ih (b.setWidth 64)
    rw [List.foldl_cons, ih, first, BitVec.shiftLeft_or_distrib, BitVec.or_assoc, ← BitVec.shiftLeft_add,
      List.length_cons, Nat.mul_succ, Nat.add_comm]

theorem packBE_append (bs bs' : List Byte) :
    packBE (bs ++ bs') = packBE bs <<< (8 * bs'.length) ||| packBE bs' := by
  rw [packBE, List.foldl_append, foldl_packBE, ← packBE]

theorem packBE_singleton (b : Byte) : packBE [b] = b.setWidth 64 := by
  simp [packBE]

/-- The first byte received becomes the most significant one (R56). -/
theorem packBE_cons (b : Byte) (bs : List Byte) :
    packBE (b :: bs) = b.setWidth 64 <<< (8 * bs.length) ||| packBE bs := by
  rw [← List.singleton_append, packBE_append, packBE_singleton]

theorem getLsbD_packBE_of_le {n : Nat} (h : 8 * bs.length ≤ n) : (packBE bs).getLsbD n = false := by
  induction bs with
  | nil => exact BitVec.getLsbD_zero
  | cons b bs ih =>
    rw [List.length_cons] at h
    rw [packBE_cons, BitVec.getLsbD_or, ih (by omega), BitVec.getLsbD_shiftLeft, BitVec.getLsbD_setWidth,
      BitVec.getLsbD_of_ge b _ (by omega)]
    simp

/-- A packed byte is read back above the bytes that follow it. -/
theorem extractLsb'_packBE (pre : List Byte) (b : Byte) (bs : List Byte) (h : bs.length < 8) :
    (packBE (pre ++ b :: bs)).extractLsb' (8 * bs.length) 8 = b := by
  ext n hn
  rw [BitVec.getElem_extractLsb', packBE_append, packBE_cons, List.length_cons, ← BitVec.getLsbD_eq_getElem]
  have above : ¬ 8 * bs.length + n < 8 * bs.length := by omega
  have below : 8 * bs.length + n < 8 * (bs.length + 1) := by omega
  have inside : 8 * bs.length + n < 64 := by omega
  have last : (packBE bs).getLsbD (8 * bs.length + n) = false := getLsbD_packBE_of_le (by omega)
  rw [BitVec.getLsbD_or, BitVec.getLsbD_or, last]
  simp [above, below, inside]

end

/-! ### A query that answers a value -/

section
variable {s : State} {i : Instr} {at_ : QueryPoint → Seq} {k : Nat} {head : List Byte} {j : List Byte → Instr}

/-- An accepted query whose last point answers a value of the bytes received: `Wake()`, its one frame, Success with that
value, and no clock read. -/
theorem IsQuery.answersValue (q : IsQuery i at_ k head j) (h : Ready i s)
    (accepts : exec i s = .next (s.accept.goto (at_ .wake))) (value : List Byte → RespValue)
    (finishes : ∀ v : State, v.seq = at_ .finish →
      exec i v = .next (v.respond .success (some (value v.miso)) none))
    (awake : (s.queried at_ k j).poweredDown = false) (keeps : (s.queried at_ k j).st = s.st) :
    ∃ (u : State) (w : List Event) (xs miso : List Byte),
      Completes i s u ∧ WakeEvents s w ∧ xs.length = k ∧ miso.length = head.length + k ∧
      u.trace = s.trace ++ w ++ [.frame (head ++ xs) miso] ∧ Answered s u ⟨.success, some (value miso), none⟩ ∧
      u.poweredDown = false ∧ SameWork s u ∧ u.inited = s.inited ∧ u.transportReady = s.transportReady ∧ u.st = s.st := by
  obtain ⟨m, sends, running⟩ := q.runs h
  obtain ⟨htrace, hlength⟩ := q.sentFrame s
  have ends := steps_one (running.step.trans (finishes _ rfl))
  exact ⟨_, s.wakeTrace, s.fillers k, _, ⟨_, accepts, _, steps_trans sends ends⟩, wakeEvents_wakeTrace s,
    fillers_length s k, hlength, htrace, ⟨rfl, rfl, rfl, rfl⟩, awake, (sameWork_queried s at_ k j).respond _ _ _,
    rfl, rfl, keeps⟩

end

/-! ### GET_JEDEC_ID -/

theorem isQuery_getJedecId : IsQuery .getJedecId .getJedecId 3 [0x9F#8] .jedecId where
  notIdle := nofun
  wakes v hv := by simp only [exec, execGetJedecId, hv]
  composes v hv := by simp only [exec, execGetJedecId, hv]
  wire _ := rfl
  fits _ hxs := decide_eq_true hxs
  encodes _ := rfl

theorem execGetJedecId_finish {s : State} (hs : s.seq = .getJedecId .finish) :
    exec .getJedecId s = .next (s.respond .success (some (jedecValue s.miso)) none) := by
  simp only [exec, execGetJedecId, hs]

/-- The value of a 4-byte frame, its received byte 0 ignored (R207). -/
theorem jedecValue_eq (b0 b1 b2 b3 : Byte) : jedecValue [b0, b1, b2, b3] = packBE [b1, b2, b3] := rfl

/-- Settles O46: the query's run, and the three bytes side by side in its value. -/
theorem jedecIdPacksThreeBytes : Obligations.JedecIdPacksThreeBytes := by
  intro s h
  have ⟨⟨hs, _⟩, hi, _⟩ := h
  obtain ⟨-, -, -, accepts, -⟩ := acceptedOperationsStart s 0 hs hi
  obtain ⟨u, w, xs, miso, completes, wakes, hxs, hmiso, htrace, answered, kept⟩ :=
    isQuery_getJedecId.answersValue h accepts jedecValue (fun _ => execGetJedecId_finish) rfl rfl
  obtain ⟨b0, b1, b2, b3, rfl⟩ := List.length_eq_four.1 hmiso
  rw [jedecValue_eq] at answered
  have packed : packBE [b1, b2, b3] = b1.setWidth 64 <<< 16 ||| b2.setWidth 64 <<< 8 ||| b3.setWidth 64 := by
    simp only [packBE_cons b1, packBE_cons b2, packBE_singleton, BitVec.or_assoc, List.length_cons, List.length_nil]
  exact ⟨u, w, xs, b0, b1, b2, b3, packBE [b1, b2, b3], completes, wakes, hxs, htrace, answered, packed,
    extractLsb'_packBE [] b1 [b2, b3] (by simp), extractLsb'_packBE [b1] b2 [b3] (by simp),
    extractLsb'_packBE [b1, b2] b3 [] (by simp), kept⟩

/-! ### GET_UNIQUE_ID -/

theorem isQuery_getUniqueId : IsQuery .getUniqueId .getUniqueId 12 [0x4B#8] .readUniqueId where
  notIdle := nofun
  wakes v hv := by simp only [exec, execGetUniqueId, hv]
  composes v hv := by simp only [exec, execGetUniqueId, hv]
  wire _ := rfl
  fits _ hxs := decide_eq_true hxs
  encodes _ := rfl

theorem execGetUniqueId_finish {s : State} (hs : s.seq = .getUniqueId .finish) :
    exec .getUniqueId s = .next (s.respond .success (some (uniqueValue s.miso)) none) := by
  simp only [exec, execGetUniqueId, hs]

/-- The value of a 13-byte frame, its first five received bytes ignored (R210). -/
theorem uniqueValue_append {ign bs : List Byte} (hign : ign.length = 5) (hbs : bs.length = 8) :
    uniqueValue (ign ++ bs) = packBE bs := by
  rw [uniqueValue, List.drop_left' hign, List.take_of_length_le hbs.le]

/-- The bytes received by a 13-byte frame: five that are ignored and the eight of the identifier. -/
theorem exists_uniqueBytes {miso : List Byte} (h : miso.length = 13) :
    ∃ (ign : List Byte) (b5 b6 b7 b8 b9 b10 b11 b12 : Byte),
      ign.length = 5 ∧ miso = ign ++ [b5, b6, b7, b8, b9, b10, b11, b12] := by
  match miso, h with
  | [b0, b1, b2, b3, b4, b5, b6, b7, b8, b9, b10, b11, b12], _ =>
    exact ⟨[b0, b1, b2, b3, b4], b5, b6, b7, b8, b9, b10, b11, b12, rfl, rfl⟩

/-- Settles O47: the query's run, and the eight bytes side by side in its value. -/
theorem uniqueIdPacksEightBytes : Obligations.UniqueIdPacksEightBytes := by
  intro s h
  have ⟨⟨hs, _⟩, hi, _⟩ := h
  obtain ⟨-, -, -, -, accepts⟩ := acceptedOperationsStart s 0 hs hi
  obtain ⟨u, w, xs, miso, completes, wakes, hxs, hmiso, htrace, answered, kept⟩ :=
    isQuery_getUniqueId.answersValue h accepts uniqueValue (fun _ => execGetUniqueId_finish) rfl rfl
  obtain ⟨ign, b5, b6, b7, b8, b9, b10, b11, b12, hign, rfl⟩ := exists_uniqueBytes hmiso
  rw [uniqueValue_append hign rfl] at answered
  refine ⟨u, w, xs, ign, b5, b6, b7, b8, b9, b10, b11, b12, completes, wakes, hxs, hign, htrace, ?_, kept⟩
  simpa only [packBE_cons _ (_ :: _), packBE_singleton, BitVec.or_assoc, List.length_cons, List.length_nil]
    using answered

end Sys2Proof.Machine
end

section
/-! PROOFS. How an operation begins and ends (60_exceptions.md): presented to an IDLE or a busy sequencer (R30, R227,
R241), ended by its response (R225), with codes and events of its own (R220, R224, R228, R236) and clock answers that never
decrease (R229). -/

namespace Sys2Proof.Machine

/-! ### Presenting an operation -/

/-- Settles O10: at the points of one operation every other one comes to its last arm, and nothing is claimed of that
operation itself. -/
theorem requestDuringAnotherIsRefused : Obligations.RequestDuringAnotherIsRefused := by
  intro s v o n d hs
  cases hk : s.seq with
  | idle => exact absurd hk hs
  | _ =>
    simp [exec, execInit, execSleep, execWait, execGetStatus, execSetStatus, execErase, execWrite, execRead,
      execGetJedecId, execGetUniqueId, hk]

section
variable (s : State)

theorem accept_accept : s.accept.accept = s.accept := rfl

theorem begin_accept (go : State → State) : s.accept.begin go = s.begin go := rfl

/-- An IDLE sequencer empties RESP before it looks at anything (R27, R29). -/
theorem exec_accept {i : Instr} (hi : i.isOperation = true) (hs : s.seq = .idle) : exec i s.accept = exec i s := by
  cases i <;> simp only [Instr.isOperation, reduceCtorEq] at hi <;>
    simp only [exec, execInit, execSleep, execWait, execGetStatus, execSetStatus, execErase, execWrite, execRead,
      execGetJedecId, execGetUniqueId, accept_seq, hs, accept_accept, begin_accept]

end

/-- Settles O50: the two states are the same once the request is accepted. -/
theorem noErrorIsSticky : Obligations.NoErrorIsSticky := by
  intro i s x hi hs
  calc exec i { s with resp := x }
    _ = exec i s.accept := (exec_accept { s with resp := x } hi hs).symm
    _ = exec i s := exec_accept s hi hs

/-! ### Responses end the operation -/

theorem framesSent_append_now (tr : List Event) (k : Nat) : framesSent (tr ++ [.now k]) = framesSent tr := by
  simp [framesSent]

/-- A point that delivers a response goes to IDLE with it in RESP, and sends nothing (R225). -/
theorem PointMove.answered {s t : State} (h : PointMove s t) (hne : t.responses ≠ s.responses) :
    ∃ r, t.responses = s.responses ++ [r] ∧ t.resp = some r ∧ t.seq = .idle ∧ t.frame = s.frame ∧
      framesSent t.trace = framesSent s.trace := by
  cases h with
  | answersAtOnce r => exact ⟨_, rfl, rfl, rfl, rfl, rfl⟩
  | finishesInit hs => exact ⟨_, rfl, rfl, rfl, rfl, rfl⟩
  | responds r v d => exact ⟨_, rfl, rfl, rfl, rfl, rfl⟩
  | timesOut r => exact ⟨_, rfl, rfl, rfl, rfl, framesSent_append_now _ _⟩
  | _ => exact absurd rfl hne

/-- Settles O49: no wire command answers, and a point that does is the operation's last. -/
theorem responseEndsTheOperation : Obligations.ResponseEndsTheOperation := by
  intro i s t h hne
  cases hi : i.isOperation with
  | false =>
    obtain ⟨-, rfl⟩ := (wire_next hi).1 h
    exact absurd rfl hne
  | true => exact (operation_pointMove hi h).answered hne

/-! ### Clock answers in order -/

theorem ClockOrdered.keeps {s t : State} (hs : ClockOrdered s) (htr : ticksRead t.trace = ticksRead s.trace)
    (hc : t.clock = s.clock) : ClockOrdered t := by
  unfold ClockOrdered
  rwa [htr, hc]

/-- A clock read answers the new clock, which is not before the old one. -/
theorem ClockOrdered.reads {s t : State} (hs : ClockOrdered s) (htr : t.trace = s.trace ++ [.now t.clock])
    (hc : s.clock ≤ t.clock) : ClockOrdered t := by
  obtain ⟨hsorted, hbound⟩ := hs
  have hticks : ticksRead t.trace = ticksRead s.trace ++ [t.clock] := by rw [htr, ticksRead_append]; rfl
  have hold : ∀ k ∈ ticksRead s.trace, k ≤ t.clock := fun k hk => (hbound k hk).trans hc
  simp only [ClockOrdered, hticks, List.pairwise_append, List.mem_append, List.mem_singleton]
  refine ⟨⟨hsorted, List.pairwise_singleton _ _, ?_⟩, ?_⟩
  · rintro k hk _ rfl
    exact hold k hk
  · rintro k (hk | rfl)
    · exact hold k hk
    · exact le_rfl

theorem le_readClock_clock (s : State) : s.clock ≤ s.readClock.clock := Nat.le_add_right _ _

theorem ClockOrdered.point {s t : State} (hs : ClockOrdered s) (h : PointMove s t) : ClockOrdered t := by
  cases h with
  | readsClock t0 k hk => exact hs.reads rfl (le_readClock_clock s)
  | timesOut r => exact hs.reads rfl (le_readClock_clock s)
  | configures => exact hs.keeps (by simp [ticksRead]) rfl
  | _ => exact hs

/-- Settles O56: a frame is no clock read, and a point that reads the clock moves it forward. -/
theorem clockAnswersNeverDecrease : Obligations.ClockAnswersNeverDecrease := by
  intro s t hs h
  obtain rfl | ⟨b, i, -, hd, he⟩ | ⟨requests, req, -, hm⟩ := step_moves h
  · exact hs
  · obtain ⟨-, rfl⟩ := (wire_next (decodeFrame_isOperation hd)).1 he
    exact hs.keeps (by simp [ticksRead]) rfl
  · exact .point (s := { s with requests := requests, req := req }) hs hm

/-! ### What an instruction itself answers and causes -/

/-- The operations that run `Wait()` (R221), which alone reads the clock (R228). -/
def ReadsClock (i : Instr) : Prop :=
  i = .wait ∨ (∃ v, i = .setStatus v) ∨ (∃ o n, i = .erase o n) ∨ ∃ d o n, i = .write d o n

/-- The events that instruction `i` can cause from `s` to `t`. -/
inductive OwnEvent (i : Instr) (s t : State) : Event → Prop
  | busInit (hi : i = .init) (hs : s.seq = .init .config) (ht : t.seq = .init .wake) : OwnEvent i s t .busInit
  | now (hi : ReadsClock i) (k : Nat) : OwnEvent i s t (.now k)
  | frame (hi : i.isOperation = false) {m : List Byte} (hm : encode i = .frame m) (r : List Byte) :
      OwnEvent i s t (.frame m r)

/-- From `s` to `t` instruction `i` delivers at most a response of its own codes and causes at most an event of its own. -/
structure OwnEffect (i : Instr) (s t : State) : Prop where
  response : t.responses = s.responses ∨ ∃ r, t.responses = s.responses ++ [r] ∧ mayAnswer i r.err = true
  event    : t.trace = s.trace ∨ ∃ e, t.trace = s.trace ++ [e] ∧ OwnEvent i s t e

/-- The next state of the outcome, if there is one, is reached by an effect of `i`'s own. -/
def OutOwnEffect (i : Instr) (s : State) (o : Out) : Prop := ∀ t, o = .next t → OwnEffect i s t

section
variable {i : Instr} {s t : State}

theorem OwnEffect.goesOn (hr : t.responses = s.responses) (htr : t.trace = s.trace) : OwnEffect i s t :=
  ⟨.inl hr, .inl htr⟩

theorem OwnEffect.answers {r : Response} (hr : t.responses = s.responses ++ [r]) (hm : mayAnswer i r.err = true)
    (htr : t.trace = s.trace) : OwnEffect i s t :=
  ⟨.inr ⟨r, hr, hm⟩, .inl htr⟩

/-- A clock read before what follows adds its event. -/
theorem OwnEffect.afterClock (hi : ReadsClock i) (h : OwnEffect i s.readClock t) (htr : t.trace = s.readClock.trace) :
    OwnEffect i s t :=
  ⟨h.response, .inr ⟨_, htr, .now hi _⟩⟩

theorem OwnEffect.ite {c : Prop} [Decidable c] {u : State} (ht : OwnEffect i s t) (hu : OwnEffect i s u) :
    OwnEffect i s (if c then t else u) := by
  split
  · exact ht
  · exact hu

theorem outOwnEffect_next (h : OwnEffect i s t) : OutOwnEffect i s (.next t) := by
  rintro _ ⟨⟩
  exact h

theorem outOwnEffect_refused (r : Refusal) : OutOwnEffect i s (.refused r) := by
  rintro _ ⟨⟩

theorem outOwnEffect_begin {go : State → State} (h : OwnEffect i s (go s.accept)) : OutOwnEffect i s (s.begin go) := by
  intro t ht
  obtain ⟨-, rfl⟩ := begin_next.1 ht
  exact h

theorem wakeThen_ownEffect {go : State → State} (h : OwnEffect i s (go s)) : OwnEffect i s (s.wakeThen go) := by
  obtain ⟨-, e⟩ | ⟨-, e⟩ := wakeThen_cases s go <;> rw [e]
  · exact .goesOn rfl rfl
  · exact h

/-- A point of `Wait()` reads the clock or goes on, if the place its result goes to does no more than answer. -/
theorem waitStep_ownEffect {at_ : WaitPoint → Seq} {done : Result → State → State} (w : WaitPoint) (hi : ReadsClock i)
    (hsuccess : OwnEffect i s (done .success s)) (htimeout : mayAnswer i .timeout = true)
    (hdone : done .timeout s.readClock = s.readClock.answer .timeout) : OwnEffect i s (s.waitStep at_ done w) := by
  cases w with
  | start =>
    exact wakeThen_ownEffect (go := fun s => s.markStart.goto (at_ .poll)) (.afterClock hi (.goesOn rfl rfl) rfl)
  | poll => exact wakeThen_ownEffect (go := fun s => s.postPoll.goto (at_ .test)) (.goesOn rfl rfl)
  | test => exact .ite (.goesOn rfl rfl) hsuccess
  | time =>
    refine .ite ?_ (.afterClock hi (.goesOn rfl rfl) rfl)
    rw [hdone]
    exact .afterClock hi (.answers rfl htimeout rfl) rfl

end

/-! The operations, point by point. -/

theorem execInit_ownEffect (s : State) : OutOwnEffect .init s (execInit s) := by
  unfold execInit
  split
  · exact outOwnEffect_next (.goesOn rfl rfl)
  next hs => exact outOwnEffect_next ⟨.inl rfl, .inr ⟨_, rfl, .busInit rfl hs rfl⟩⟩
  · exact outOwnEffect_next (.goesOn rfl rfl)
  · exact outOwnEffect_next (.answers rfl rfl rfl)
  · exact outOwnEffect_refused _

theorem execSleep_ownEffect (s : State) : OutOwnEffect .sleep s (execSleep s) := by
  unfold execSleep
  split
  · exact outOwnEffect_begin (.ite (.answers rfl rfl rfl) (.goesOn rfl rfl))
  · exact outOwnEffect_next (.goesOn rfl rfl)
  · exact outOwnEffect_next (.answers rfl rfl rfl)
  · exact outOwnEffect_refused _

theorem execWait_ownEffect (s : State) : OutOwnEffect .wait s (execWait s) := by
  have hi : ReadsClock .wait := .inl rfl
  unfold execWait
  split
  · exact outOwnEffect_begin (.goesOn rfl rfl)
  · exact outOwnEffect_next (waitStep_ownEffect _ hi (.answers rfl rfl rfl) rfl rfl)
  · exact outOwnEffect_refused _

theorem execGetStatus_ownEffect (s : State) : OutOwnEffect .getStatus s (execGetStatus s) := by
  unfold execGetStatus
  split
  · exact outOwnEffect_begin (.goesOn rfl rfl)
  · exact outOwnEffect_next (wakeThen_ownEffect (.goesOn rfl rfl))
  · exact outOwnEffect_next (.answers rfl rfl rfl)
  · exact outOwnEffect_refused _

theorem execSetStatus_ownEffect (v : Byte) (s : State) : OutOwnEffect (.setStatus v) s (execSetStatus v s) := by
  have hi : ReadsClock (.setStatus v) := .inr (.inl ⟨v, rfl⟩)
  unfold execSetStatus
  split
  · exact outOwnEffect_begin (.goesOn rfl rfl)
  · exact outOwnEffect_next (wakeThen_ownEffect (.goesOn rfl rfl))
  · exact outOwnEffect_next (.goesOn rfl rfl)
  · exact outOwnEffect_next (.goesOn rfl rfl)
  · exact outOwnEffect_next (waitStep_ownEffect _ hi (.answers rfl rfl rfl) rfl rfl)
  · exact outOwnEffect_refused _

theorem execErase_ownEffect (o n : Operand) (s : State) : OutOwnEffect (.erase o n) s (execErase o n s) := by
  have hi : ReadsClock (.erase o n) := .inr (.inr (.inl ⟨o, n, rfl⟩))
  unfold execErase
  split
  · exact outOwnEffect_begin (.ite (.answers rfl rfl rfl) (.goesOn rfl rfl))
  · exact outOwnEffect_next (wakeThen_ownEffect (.goesOn rfl rfl))
  · exact outOwnEffect_next (.goesOn rfl rfl)
  · exact outOwnEffect_next (.ite (.goesOn rfl rfl) (.answers rfl rfl rfl))
  · exact outOwnEffect_next (.ite (.answers rfl rfl rfl) (.goesOn rfl rfl))
  · exact outOwnEffect_next (.goesOn rfl rfl)
  · exact outOwnEffect_next (waitStep_ownEffect _ hi (.goesOn rfl rfl) rfl rfl)
  · exact outOwnEffect_refused _

theorem execWrite_ownEffect (d : Option (List Byte)) (o n : Operand) (s : State) :
    OutOwnEffect (.write d o n) s (execWrite d o n s) := by
  have hi : ReadsClock (.write d o n) := .inr (.inr (.inr ⟨d, o, n, rfl⟩))
  unfold execWrite
  split
  · exact outOwnEffect_begin (.ite (.answers rfl rfl rfl) (.goesOn rfl rfl))
  · exact outOwnEffect_next (wakeThen_ownEffect (.goesOn rfl rfl))
  · exact outOwnEffect_next (.ite (.goesOn rfl rfl) (.goesOn rfl rfl))
  · exact outOwnEffect_next (waitStep_ownEffect _ hi (.goesOn rfl rfl) rfl rfl)
  · exact outOwnEffect_next (.goesOn rfl rfl)
  · exact outOwnEffect_next (.goesOn rfl rfl)
  · exact outOwnEffect_next (.goesOn rfl rfl)
  · exact outOwnEffect_next (waitStep_ownEffect _ hi (.answers rfl rfl rfl) rfl rfl)
  · exact outOwnEffect_refused _

theorem execRead_ownEffect (o n : Operand) (s : State) : OutOwnEffect (.read o n) s (execRead o n s) := by
  unfold execRead
  split
  · exact outOwnEffect_begin (.ite (.answers rfl rfl rfl) (.goesOn rfl rfl))
  · exact outOwnEffect_next (wakeThen_ownEffect (.goesOn rfl rfl))
  · exact outOwnEffect_next (.goesOn rfl rfl)
  · exact outOwnEffect_next (.answers rfl rfl rfl)
  · exact outOwnEffect_refused _

theorem execGetJedecId_ownEffect (s : State) : OutOwnEffect .getJedecId s (execGetJedecId s) := by
  unfold execGetJedecId
  split
  · exact outOwnEffect_begin (.goesOn rfl rfl)
  · exact outOwnEffect_next (wakeThen_ownEffect (.goesOn rfl rfl))
  · exact outOwnEffect_next (.goesOn rfl rfl)
  · exact outOwnEffect_next (.answers rfl rfl rfl)
  · exact outOwnEffect_refused _

theorem execGetUniqueId_ownEffect (s : State) : OutOwnEffect .getUniqueId s (execGetUniqueId s) := by
  unfold execGetUniqueId
  split
  · exact outOwnEffect_begin (.goesOn rfl rfl)
  · exact outOwnEffect_next (wakeThen_ownEffect (.goesOn rfl rfl))
  · exact outOwnEffect_next (.goesOn rfl rfl)
  · exact outOwnEffect_next (.answers rfl rfl rfl)
  · exact outOwnEffect_refused _

/-- A wire command is encoded as a frame (R3). -/
theorem encode_of_wire {i : Instr} (hi : i.isOperation = false) : encode i = .frame ((encodeFrame i).getD []) := by
  cases i with
  | init | sleep | wait | getStatus | setStatus | erase | write | read | getJedecId | getUniqueId => cases hi
  | _ => rfl

/-- A wire command answers nothing and causes its own frame (R80, R82). -/
theorem wire_ownEffect {i : Instr} {s t : State} (hi : i.isOperation = false) (h : exec i s = .next t) :
    OwnEffect i s t := by
  obtain ⟨-, rfl⟩ := (wire_next hi).1 h
  exact ⟨.inl rfl, .inr ⟨_, rfl, .frame hi (encode_of_wire hi) _⟩⟩

/-- Every instruction answers only with its own codes and causes only its own events. -/
theorem exec_ownEffect {i : Instr} {s t : State} (h : exec i s = .next t) : OwnEffect i s t := by
  cases i with
  | init => exact execInit_ownEffect s t h
  | sleep => exact execSleep_ownEffect s t h
  | wait => exact execWait_ownEffect s t h
  | getStatus => exact execGetStatus_ownEffect s t h
  | setStatus v => exact execSetStatus_ownEffect v s t h
  | erase o n => exact execErase_ownEffect o n s t h
  | write d o n => exact execWrite_ownEffect d o n s t h
  | read o n => exact execRead_ownEffect o n s t h
  | getJedecId => exact execGetJedecId_ownEffect s t h
  | getUniqueId => exact execGetUniqueId_ownEffect s t h
  | _ => exact wire_ownEffect rfl h

/-- The table of R220 gives AccessDenied to no instruction (R224). -/
theorem mayAnswer_accessDenied (i : Instr) : mayAnswer i .accessDenied = false := by
  cases i <;> rfl

/-- Settles O48: an effect of the instruction's own answers one of its codes, and AccessDenied is none. -/
theorem resultCodesAreThoseOfTheTable : Obligations.ResultCodesAreThoseOfTheTable := by
  intro i s t h
  refine (exec_ownEffect h).response.imp_right fun ⟨r, hr, hm⟩ => ⟨r, hr, hm, fun he => ?_⟩
  rw [he, mayAnswer_accessDenied] at hm
  cases hm

/-- Settles O52: the one event added is an event of the instruction's own. -/
theorem eventsComeFromTheirOwnOperations : Obligations.EventsComeFromTheirOwnOperations := by
  intro i s t e h htr
  have own : OwnEvent i s t e := by
    obtain hsame | ⟨e', htr', hown⟩ := (exec_ownEffect h).event
    · exact absurd (hsame.symm.trans htr) (by simp)
    · rwa [List.singleton_inj.1 (List.append_cancel_left (htr.symm.trans htr'))]
  cases own with
  | busInit hi hs ht => exact ⟨nofun, fun _ => ⟨hi, hs, ht⟩, nofun⟩
  | now hi k => exact ⟨fun _ _ => hi, nofun, nofun⟩
  | frame hi hm r =>
    refine ⟨nofun, nofun, ?_⟩
    rintro _ _ ⟨⟩
    exact ⟨hi, hm⟩

end Sys2Proof.Machine
end

section
/-! PROOFS. The bytes of the reference chip's array (20_memory.md section 9, G3; logs 10, 11, 14): what a program and an
erase that the chip obeys leave of each, and a program read back once its cycle is over (R258). -/

namespace Sys2Proof.Machine

/-! ### What a program and an erase leave of each byte -/

/-- A payload byte that stays inside the page of the address goes to its own place (R186). -/
theorem programAddr_of_inside {a j : Nat} (h : a % 256 + j < 256) : programAddr a j = a + j := by
  have mod : (a + j) % 256 = a % 256 + j := by rw [Nat.add_mod, Nat.mod_eq_of_lt (a := j) (by omega), Nat.mod_eq_of_lt h]
  rw [programAddr, pageSize, mod, ← Nat.add_assoc, Nat.sub_add_cancel (Nat.mod_le a 256)]

/-- Inside its page a program ANDs its payload from byte `j` on into the addresses from `a + j` on, up to the end of the
array, and leaves every other byte. -/
theorem Memory.read_program_inside (size a : Nat) {j : Nat} {p : List Byte} {m : Memory} (hm : m.wf)
    (h : a % 256 + (j + p.length) ≤ 256) (b : Nat) :
    Memory.read (Memory.program size a j p m) b =
      if a + j ≤ b ∧ b < a + j + p.length ∧ b < size then Memory.read m b &&& p.getD (b - (a + j)) 0
      else Memory.read m b := by
  induction p generalizing j m with
  | nil => rw [if_neg (by simp; omega), Memory.program]
  | cons v vs ih =>
    rw [List.length_cons] at h ⊢
    have rest : a % 256 + (j + 1 + vs.length) ≤ 256 := by omega
    simp only [Memory.program, programAddr_of_inside (a := a) (j := j) (by omega)]
    by_cases hin : a + j < size
    · rw [if_pos hin, ih (Memory.write_wf _ _ hm) rest, Memory.read_write hm]
      obtain hb | rfl | hb := lt_trichotomy b (a + j)
      · rw [if_neg (by omega), if_neg (by omega), if_neg (by omega)]
      · rw [if_neg (by omega), if_pos rfl, if_pos (by omega), Nat.sub_self, List.getD_cons_zero]
      · have next : b - (a + j) = b - (a + (j + 1)) + 1 := by omega
        rw [if_neg hb.ne', next, List.getD_cons_succ]
        exact if_congr (by omega) rfl rfl
    · rw [if_neg hin, ih hm rest, if_neg (by omega), if_neg (by omega)]

section
variable {s : State}

/-- A chip that obeys a program under the latch has its array programmed (R186). -/
theorem sent_pageProgram_array (hl : s.chip.listens = true) (hw : s.chip.wel = true) (a : FlashAddr) (p : List Byte) :
    (s.sent (.pageProgram a p)).chip.array = s.chip.array.program s.flashSize a.toNat 0 p := by
  show (s.chip.receive _ _ _).array = _
  rw [Chip.receive_of_listens _ _ _ hl, Chip.obey, if_pos hw]
  rfl

/-- Settles O15: a well-formed program stays inside its page. -/
theorem programChangesOnlyItsBytes : Obligations.ProgramChangesOnlyItsBytes := by
  intro s a p hbus hfits hwf hl hw
  obtain ⟨-, hpage⟩ := (Instr.wellFormed_pageProgram a p).1 hfits
  refine ⟨s.sent (.pageProgram a p), exec_wire_of_configured rfl hbus, fun b => ?_⟩
  rw [sent_pageProgram_array hl hw, Memory.read_program_inside _ _ hwf (by omega), Nat.add_zero]

/-- The base of an aligned unit is its first address (R160, R161). -/
theorem unitBase_of_aligned {a n : Nat} (h : a % n = 0) : unitBase a n = a := by
  rw [unitBase, h, Nat.sub_zero]

/-- A chip that obeys the command of an aligned unit has exactly that unit at 0xFF (R160, R161). -/
theorem sent_erase_read (hl : s.chip.listens = true) {i : Instr} {a n : Nat}
    (hobey : ∀ m, (s.chip.obey s.flashSize m i).array = s.chip.array.eraseRange (unitBase a n) n)
    (ha : a % n = 0) (b : Nat) :
    Memory.read (s.sent i).chip.array b = if a ≤ b ∧ b < a + n then 0xFF#8 else Memory.read s.chip.array b := by
  have erased : (s.sent i).chip.array = s.chip.array.eraseRange a n := by
    show (s.chip.receive _ _ _).array = _
    rw [Chip.receive_of_listens _ _ _ hl, hobey, unitBase_of_aligned ha]
  rw [erased, Memory.read_erase]
  rfl

/-- Settles O16: the unit of an aligned address begins there. -/
theorem eraseClearsExactlyItsUnit : Obligations.EraseClearsExactlyItsUnit := by
  intro s a hbus hl hw
  refine ⟨fun ha => ⟨s.sent (.sectorErase4k a), exec_wire_of_configured rfl hbus, sent_erase_read hl (fun m => ?_) ha⟩,
    fun ha => ⟨s.sent (.blockErase32k a), exec_wire_of_configured rfl hbus, sent_erase_read hl (fun m => ?_) ha⟩⟩
  · rw [Chip.obey, if_pos hw]
    rfl
  · rw [Chip.obey, if_pos hw]
    rfl

/-! ### Status polls while a cycle runs -/

/-- A chip obeys when it is neither busy nor powered down. -/
theorem Chip.listens_iff {c : Chip} : c.listens = true ↔ c.busyFor = 0 ∧ c.asleep = false := by
  simp [Chip.listens, Chip.busy]

/-- A status poll lets one frame of a running cycle elapse, and leaves an awake chip awake. -/
theorem Chip.receive_poll {c : Chip} (size n : Nat) (x : Byte) (ha : c.asleep = false) :
    (c.receive size n (.readStatusRegister x)).busyFor = c.busyFor - 1 ∧
      (c.receive size n (.readStatusRegister x)).asleep = false := by
  by_cases hb : c.busyFor = 0
  · rw [Chip.receive_of_listens size n _ (Chip.listens_iff.2 ⟨hb, ha⟩),
      Chip.obey_reading size n (.inr (.inl ⟨x, rfl⟩)), hb]
    exact ⟨rfl, ha⟩
  · rw [Chip.receive_of_busy size n _ hb]
    exact ⟨rfl, ha⟩

/-- From `s` to `t` a cycle has run out at an awake chip, and nothing a read depends on has changed. -/
structure CycleOver (s t : State) : Prop where
  onBus   : t.transportReady = s.transportReady
  answers : t.answers = s.answers
  size    : t.flashSize = s.flashSize
  array   : t.chip.array = s.chip.array
  listens : t.chip.listens = true

/-- As many status polls as the frames a cycle lasts, or more, bring it to its end (log 11). -/
theorem execAll_polls (polls : List Byte) (is : List Instr) (hbus : s.transportReady = true)
    (ha : s.chip.asleep = false) (hn : s.chip.busyFor ≤ polls.length) :
    ∃ t, execAll (polls.map .readStatusRegister ++ is) s = execAll is t ∧ CycleOver s t := by
  induction polls generalizing s with
  | nil =>
    exact ⟨s, rfl, rfl, rfl, rfl, rfl, Chip.listens_iff.2 ⟨Nat.le_zero.1 hn, ha⟩⟩
  | cons x xs ih =>
    obtain ⟨hbusy, hawake⟩ := Chip.receive_poll s.flashSize (s.cycles.peek Config.freeCycle 0) x ha
    have kept : (s.sent (.readStatusRegister x)).chip.array = s.chip.array :=
      Chip.receive_array _ _ (.inl (by simp [WritesArray]))
    obtain ⟨t, hrun, hover⟩ := ih (s := s.sent (.readStatusRegister x)) hbus hawake
      (hbusy.trans_le (Nat.sub_le_of_le_add hn))
    refine ⟨t, ?_, hover.onBus, hover.answers, hover.size, hover.array.trans kept, hover.listens⟩
    rw [← hrun, List.map_cons, List.cons_append, execAll, exec_wire_of_configured rfl hbus]

/-- A chip that obeys a program under the latch is busy for the frames of a cycle, and awake (R76). -/
theorem sent_pageProgram_cycle (hl : s.chip.listens = true) (hw : s.chip.wel = true) (a : FlashAddr) (p : List Byte) :
    (s.sent (.pageProgram a p)).chip.busyFor = s.cycles.peek Config.freeCycle 0 ∧
      (s.sent (.pageProgram a p)).chip.asleep = false := by
  obtain ⟨array, sr, he⟩ := Chip.obey_latched s.flashSize (s.cycles.peek Config.freeCycle 0) hw
    (i := .pageProgram a p) (.inr (.inl ⟨a, p, rfl⟩))
  have cycle : (s.sent (.pageProgram a p)).chip = _ := (Chip.receive_of_listens _ _ _ hl).trans he
  rw [cycle]
  exact ⟨rfl, (Chip.listens_iff.1 hl).2⟩

end

/-! ### A program read back -/

/-- What is programmed into an erased region inside the array is what stands there (R258). -/
theorem Memory.program_erased_reads {size a : Nat} {p : List Byte} {m : Memory} (hm : m.wf)
    (hpage : a % 256 + p.length ≤ 256) (hsize : a + p.length ≤ size)
    (herased : ∀ b, a ≤ b → b < a + p.length → Memory.read m b = 0xFF#8) :
    ((List.range p.length).map fun j => Memory.read (Memory.program size a 0 p m) ((a + j) % size)) = p := by
  refine List.ext_getElem (by simp) fun j _ hj => ?_
  rw [List.getElem_map, List.getElem_range, Nat.mod_eq_of_lt (by omega), Memory.read_program_inside _ _ hm (by omega),
    if_pos (by omega), herased _ (by omega) (by omega), Nat.add_zero, Nat.add_sub_cancel_left,
    List.getD_eq_getElem _ _ hj]
  exact BitVec.allOnes_and

/-- Settles O19: the program starts its cycle, the polls end it, and the read receives the payload. -/
theorem programThenReadReturnsThePayload : Obligations.ProgramThenReadReturnsThePayload := by
  intro s a p xs polls hbus hans hwf hl hw hn hfits hsize hxs herased
  obtain ⟨-, hpage⟩ := (Instr.wellFormed_pageProgram a p).1 hfits
  obtain ⟨hbusy, hawake⟩ := sent_pageProgram_cycle hl hw a p
  obtain ⟨t, hrun, hover⟩ := execAll_polls (s := s.sent (.pageProgram a p)) polls [.readData a xs] hbus hawake
    (hbusy.trans_le hn)
  refine ⟨t.sent (.readData a xs), ?_, ?_⟩
  · rw [List.cons_append, execAll, exec_wire_of_configured rfl hbus]
    refine hrun.trans ?_
    rw [execAll, exec_wire_of_configured rfl (hover.onBus.trans hbus)]
    rfl
  · rw [sent_readData_of_chip (hover.answers.trans hans) hover.listens, hxs]
    simp only [Chip.byteAt, hover.array, hover.size, sent_pageProgram_array hl hw]
    exact Memory.program_erased_reads hwf hpage hsize herased

end Sys2Proof.Machine
end

section
/-! PROOFS. Reset (R251), and INIT, which alone runs after it (R254): the state it leaves, its invariants, and the run of
INIT from any IDLE state (R252). -/

namespace Sys2Proof.Machine

/-! ### Reset -/

/-- FLASH_SIZE is legal whatever value is configured (R8). -/
theorem flashSize_legal : 1 ≤ Config.flashSize ∧ Config.flashSize ≤ 16777216 :=
  ⟨Nat.succ_pos _, Config.flashSizeLessOne.isLt⟩

/-- Settles O8: the fields of the reset state, with the bounds of FLASH_SIZE. -/
theorem resetLeavesNothingDone : Obligations.ResetLeavesNothingDone :=
  ⟨rfl, rfl, rfl, rfl, rfl, rfl, rfl, rfl, flashSize_legal⟩

/-- Nothing runs, no frame is composed, and the chip's array is unwritten after reset (R251). -/
theorem coherent_reset : Coherent State.reset where
  sizePositive := flashSize_legal.1
  sizeBounded := flashSize_legal.2
  placed := nofun
  legal := nofun
  running hk := absurd rfl hk
  initialised := nofun
  configured := nofun
  canonical := Memory.wf_nil

/-- No power frame was sent, and INIT has not run. -/
theorem powerMirror_reset : PowerMirror State.reset := ⟨nofun, nofun, nofun⟩

theorem latchDiscipline_reset : LatchDiscipline State.reset := ⟨nofun, rfl⟩

theorem framesLegal_reset : FramesLegal State.reset := nofun

/-- The clock was not read. -/
theorem clockOrdered_reset : ClockOrdered State.reset := ⟨List.Pairwise.nil, nofun⟩

/-- Settles O58: nothing has happened, so each invariant holds of the empty trace and the IDLE sequencer. -/
theorem resetMeetsTheInvariants : Obligations.ResetMeetsTheInvariants :=
  ⟨coherent_reset, powerMirror_reset, latchDiscipline_reset, framesLegal_reset, clockOrdered_reset⟩

/-! ### INIT -/

/-- Settles O9: every other operation first asks whether INIT has run. -/
theorem onlyInitRunsBeforeInit : Obligations.OnlyInitRunsBeforeInit := fun _ _ => exec_not_inited

section
variable {s : State}

theorem execInit_wake (hs : s.seq = .init .wake) :
    exec .init s = .next ((s.post .releasePowerDown).goto (.init .finish)) := by
  simp only [exec, execInit, hs]

theorem execInit_finish (hs : s.seq = .init .finish) :
    exec .init s = .next ({ s with inited := true }.answer .success) := by
  simp only [exec, execInit, hs]

/-- INIT accepted and the bus configured, before its release frame. -/
def State.initConfigured (s : State) : State :=
  (s.accept.goto (.init .config)).initializeAsController.goto (.init .wake)

/-- INIT with its release frame sent. -/
def State.initReleased (s : State) : State := s.initConfigured.issued .releasePowerDown (.init .finish)

/-- INIT at its end (R121). -/
def State.initialised (s : State) : State := { s.initReleased with inited := true }.answer .success

/-- INIT configures the bus, releases the chip and answers, whatever the flags hold (R121). -/
theorem completes_init (h : Presented .init s) : Completes .init s s.initialised := by
  obtain ⟨hs, hf, r, hr, hd⟩ := h
  have configures : step (s.accept.goto (.init .config)) = .next s.initConfigured :=
    (step_of_running (s := s.accept.goto (.init .config)) hf nofun hr hd).trans (execInit_config rfl)
  have atWake : Running .init s.initConfigured := ⟨hf, nofun, rfl, r, hr, hd⟩
  have atFinish : Running .init s.initReleased := atWake.issued _ nofun
  have releases := atWake.issues (execInit_wake rfl) rfl rfl rfl rfl
  have answers := atFinish.step.trans (execInit_finish rfl)
  exact ⟨_, execInit_idle hs, _, steps_trans (steps_trans (steps_one configures) releases) (steps_one answers)⟩

/-- INIT's own events: `BusInit`, then its one frame (R252). -/
theorem initialised_trace (s : State) : ∃ m, m.length = 1 ∧
    s.initialised.trace = s.trace ++ [.busInit, .frame [0xAB#8] m] := by
  obtain ⟨htrace, hlength, -⟩ := sentFrame_issued (j := .releasePowerDown) s.initConfigured (.init .finish) rfl rfl
  exact ⟨_, hlength, htrace.trans (List.append_assoc _ _ _)⟩

theorem sameWork_initConfigured (s : State) : SameWork s s.initConfigured :=
  ⟨rfl, rfl, rfl, rfl, rfl, rfl, rfl, rfl, rfl, rfl, rfl⟩

theorem sameWork_initialised (s : State) : SameWork s s.initialised :=
  SameWork.trans (t := s.initReleased) ((sameWork_initConfigured s).issued _ _)
    ⟨rfl, rfl, rfl, rfl, rfl, rfl, rfl, rfl, rfl, rfl, rfl⟩

@[simp] theorem issued_fill (s : State) (j : Instr) (k : Seq) : (s.issued j k).fill = s.fill := rfl

/-- A release frame leaves the status byte (R146). -/
@[simp] theorem issued_release_st (s : State) (k : Seq) : (s.issued .releasePowerDown k).st = s.st := rfl

/-- What `SameWork` does not say of the run of INIT: its one response, and nothing drawn or read. -/
theorem initialised_kept (s : State) :
    s.initialised.responses = s.responses ++ [⟨.success, none, none⟩] ∧ s.initialised.fill = s.fill ∧
      s.initialised.st = s.st := by
  simp [State.initialised, State.initReleased, State.initConfigured]

end

/-- Settles O22: the run of INIT, which asks for neither flag. -/
theorem initConfiguresAndWakes : Obligations.InitConfiguresAndWakes := by
  intro s h
  obtain ⟨m, hlength, htrace⟩ := initialised_trace s
  obtain ⟨hresponses, hfill, hst⟩ := initialised_kept s
  exact ⟨s.initialised, m, completes_init h, ⟨rfl, rfl, rfl, hresponses⟩, rfl, rfl, rfl, hlength, htrace,
    sameWork_initialised s, hfill, hst⟩

end Sys2Proof.Machine
end
